-- ==== Sys2Proof/Word.lean ====
section
/-! DEFINITION. The words of the model: bytes, moments of the part's clock, fixed-size banks of records,
and the plainest arithmetic the manual uses (clamping, saturating counts). Section numbers are those of
spec/00_scope.md. -/

namespace Sys2Proof

/-- A byte of a frame or of a table image. -/
abbrev Byte := BitVec 8

/-- A run of bytes, the first sent first. -/
abbrev Bytes := List Byte

/-- A moment of the part's clock, in units of 10 µs. Every time the manual names (the 90 µs mark of R66,
windows in 0.1 ms, byte times of 10 to 40 µs) is a whole number of these units. -/
abbrev Moment := Nat

/-- `n` tenths of a millisecond, in clock units. -/
def tenthMs (n : Nat) : Nat := 10 * n

/-- `n` milliseconds, in clock units. -/
def ms (n : Nat) : Nat := 100 * n

/-- `n` seconds, in clock units. -/
def sec (n : Nat) : Nat := 100000 * n

/-- "Clamped to ±x" (section 5.2): brought to −x if below −x and to +x if above +x. -/
def clampTo (lim x : Int) : Int := max (-lim) (min lim x)

/-- One more, staying at `lim` once it gets there (a saturating count). -/
def satSucc (lim n : Nat) : Nat := min lim (n + 1)

/-- The bank `v` with the record at `i` changed by `f`. -/
def Bank.upd {α : Type} {n : Nat} (v : Vector α n) (i : Fin n) (f : α → α) : Vector α n :=
  v.set i.val (f v[i.val]) i.isLt

/-- Every index of a bank, in rising order. -/
def Bank.indices (n : Nat) : List (Fin n) := List.finRange n

end Sys2Proof
end

