-- ==== Sys2Proof/Syntax.lean ====
section
/-! DEFINITION. The commands of the part: one constructor of `Instr` for each row of
spec/opcode_table.json, with its operands, and the types of those operands. -/

namespace Sys2Proof

/-- A region of the retained store (section 10.6): one per table id (1 to 13), the fuel region, the transfer
region and the split mode. -/
inductive Region where
  | table (id : Nat)
  | fuel
  | transfer
  | splitMode
  deriving DecidableEq, Repr

/-- What the read-back of the words written at a step finds in the retained store (R186, R187): the regions in
which a word reads back different twice, and one entry of `corrected` for each word of a region that the read-back
of a write of that region finds with one bit in error, which the ECC corrects. Both are empty for a healthy
store. -/
structure ReadBack where
  failed : List Region := []
  corrected : List Region := []
  deriving DecidableEq, Repr

/-- The circumstances in which the part takes a step, which come from outside it: the moment at which the step is
taken; what the read-back of the words written at this step finds (R186, R187); and, for a node's frame on the
machinery or tow line, where nodes only answer, which of the part's frames on that line it answers: its number in
the order in which the part sent them, from 1, or none for a frame that answers none (R75, R87, R97). -/
structure Env where
  time : Moment
  readBack : ReadBack := {}
  answers : Option Nat := none
  deriving DecidableEq, Repr

/-- The three serial lines (section 2.3). -/
inductive Line where
  | station
  | machinery
  | tow
  deriving DecidableEq, Repr

/-- The three line checks of R191. -/
inductive LineCheck where
  | framing
  | length
  | crc
  deriving DecidableEq, Repr

/-- One byte as a line's receiver takes it (R191): its value, whether its stop bit was valid, and whether more
than one and a half byte times passed since the byte before it. -/
structure RxByte where
  value : Byte
  stop : Bool := true
  gap : Bool := false
  deriving DecidableEq, Repr

/-- The straps as the pins stand when reset ends (R189). `addr` is ADDR1:0 read as a number 0 to 3. -/
structure Straps where
  addr : Nat := 0
  rate : Bool := false
  thold : Bool := false
  deriving DecidableEq, Repr

/-- What the ECC says of the words a cold start reads from the retained store (R186): how many words had one
bit in error (and were corrected), and which items contain a word that cannot be corrected: table ids 1–13,
consumer positions 1–6, tank indexes 1–12, history positions 1–8, the run counter, the split mode. -/
structure ColdRead where
  corrected : Nat := 0
  tables : List Nat := []
  accounts : List Nat := []
  books : List Nat := []
  history : List Nat := []
  counter : Bool := false
  splitMode : Bool := false
  deriving DecidableEq, Repr

/-- What the ECC says of the words a scrub check reads (R186, R188). -/
structure ScrubRead where
  corrected : Nat := 0
  uncorrectable : Bool := false
  deriving DecidableEq, Repr

/-- The commands: the part's steps, one constructor for each row of the table of operations and events.
Every constructor's first operand is the step's circumstances. Frames are given as they passed the line
checks of R191: destination, source, kind where the row leaves it open, and payload bytes in the layouts of
chapter 11. A station is named by its address. -/
inductive Instr where
  /-- COLD_START (R189) with the straps as sampled and the ECC's findings. -/
  | coldStart (e : Env) (straps : Straps) (found : ColdRead)
  /-- CONTROL_RESTART (R185). -/
  | controlRestart (e : Env)
  /-- HELM_FRAME (R2): a helm frame on the station line. -/
  | helmFrame (e : Env) (dst src : Nat) (payload : Bytes)
  /-- NONE (R4): an event with code NONE or an unknown code, and its event count. -/
  | noneEvent (e : Env) (station count code : Nat)
  /-- TAKE (R6, R7). -/
  | take (e : Env) (station count : Nat)
  /-- RELEASE (R8, R9). -/
  | release (e : Env) (station count : Nat)
  /-- REFUSE (R10). -/
  | refuse (e : Env) (station count : Nat)
  /-- SEIZE (R12). -/
  | seize (e : Env) (station count : Nat)
  /-- SYNC ON c (R44), c = 1 to 4. -/
  | syncOn (e : Env) (station count channel : Nat)
  /-- SYNC OFF c (R44), c = 1 to 4. -/
  | syncOff (e : Env) (station count channel : Nat)
  /-- ACK (R172). -/
  | ack (e : Env) (station count : Nat)
  /-- SPLIT (R119). -/
  | split (e : Env) (station count : Nat)
  /-- ABORT SPLIT (R120). -/
  | abortSplit (e : Env) (station count : Nat)
  /-- RECOUPLE (R121). -/
  | recouple (e : Env) (station count : Nat)
  /-- ABORT REJOIN (R123). -/
  | abortRejoin (e : Env) (station count : Nat)
  /-- TRANSFER STOP (R156). -/
  | transferStop (e : Env) (station count : Nat)
  /-- SILENCE_TIMER_EXPIRY (R3). -/
  | silenceTimerExpiry (e : Env) (station : Nat)
  /-- TRANSFER_TIMER_EXPIRY (R11). -/
  | transferTimerExpiry (e : Env)
  /-- ORPHAN_TIMER_EXPIRY (R13). -/
  | orphanTimerExpiry (e : Env)
  /-- LEVER_INVALID_TIMER_EXPIRY (R16), channel 1 to 4. -/
  | leverInvalidTimerExpiry (e : Env) (channel : Nat)
  /-- FOLLOW_UP_FRAME (R19); `lineFree` says whether the station line is free at the scheduled moment. -/
  | followUpFrame (e : Env) (lineFree : Bool)
  /-- STATION_LINE_IDLE_GAP (R193). -/
  | stationLineIdleGap (e : Env)
  /-- TRANSMIT_READBACK_MISMATCH (R193). -/
  | transmitReadbackMismatch (e : Env)
  /-- LINE_CHECK_FAILURE (R191): the bytes a line's receiver took between two idle gaps of three byte times,
  the first idle before them and the last after them. -/
  | lineCheckFailure (e : Env) (line : Line) (run : List RxByte)
  /-- CYCLE_BOUNDARY (R66). -/
  | cycleBoundary (e : Env)
  /-- MACHINERY_WINDOW_CLOSE (R74). -/
  | machineryWindowClose (e : Env)
  /-- MACHINERY_REPORT (R74): a frame on the machinery line. -/
  | machineryReport (e : Env) (dst src kind : Nat) (payload : Bytes)
  /-- DWELL_TIMER_EXPIRY (R34), engine 1 to 4. -/
  | dwellTimerExpiry (e : Env) (engine : Nat)
  /-- CONFIRM_TIMER_EXPIRY (R36), engine 1 to 4. -/
  | confirmTimerExpiry (e : Env) (engine : Nat)
  /-- POLL_CYCLE_START (R85). -/
  | pollCycleStart (e : Env)
  /-- POLL_WINDOW_CLOSE (R86). -/
  | pollWindowClose (e : Env)
  /-- POLL_REPLY (R87, R88): a POLL REPLY frame on the tow line. -/
  | pollReply (e : Env) (dst src : Nat) (payload : Bytes)
  /-- ACCESS_ANSWER (R97): an ACCESS ANSWER frame on the tow line. -/
  | accessAnswer (e : Env) (dst src : Nat) (payload : Bytes)
  /-- NODE_ACCESS_TIMEOUT (R97). -/
  | nodeAccessTimeout (e : Env)
  /-- REJOIN_TIMER_EXPIRY (R122). -/
  | rejoinTimerExpiry (e : Env)
  /-- START_CONFIRM_TIMER_EXPIRY (R153). -/
  | startConfirmTimerExpiry (e : Env)
  /-- TRAILER_TIMER_EXPIRY (R157). -/
  | trailerTimerExpiry (e : Env)
  /-- ACCOUNT_SAVE_TIMER (R144). -/
  | accountSaveTimer (e : Env)
  /-- MANAGEMENT_FRAME (R178): a management request frame on the station line. -/
  | managementFrame (e : Env) (dst src : Nat) (payload : Bytes)
  /-- UNKNOWN_REQUEST (R178): a request of an unknown kind is served. -/
  | unknownRequest (e : Env) (station kind tag : Nat) (fields : Bytes)
  /-- LOAD_BEGIN (R180) served; fields: table id 1, length 2. -/
  | loadBegin (e : Env) (station tag : Nat) (fields : Bytes)
  /-- LOAD_DATA (R181) served; fields: offset 2, data 1–24. -/
  | loadData (e : Env) (station tag : Nat) (fields : Bytes)
  /-- LOAD_END (R183) served; fields: CRC 2. -/
  | loadEnd (e : Env) (station tag : Nat) (fields : Bytes)
  /-- READ_TABLE (R179) served; fields: table id 1, offset 2, length 1. -/
  | readTable (e : Env) (station tag : Nat) (fields : Bytes)
  /-- READ_STATE (R179) served; fields: group 1, index 1, part 1. -/
  | readState (e : Env) (station tag : Nat) (fields : Bytes)
  /-- NEXT_ALARM (R173) served; no fields. -/
  | nextAlarm (e : Env) (station tag : Nat) (fields : Bytes)
  /-- START_TRANSFER (R152) served; fields: source 1, destination 1, target 4. -/
  | startTransfer (e : Env) (station tag : Nat) (fields : Bytes)
  /-- ABORT_TRANSFER (R156) served; no fields. -/
  | abortTransfer (e : Env) (station tag : Nat) (fields : Bytes)
  /-- BUNKER_RECEIPT (R137) served; fields: tank 1, quantity mL 4. -/
  | bunkerReceipt (e : Env) (station tag : Nat) (fields : Bytes)
  /-- SET_TANK_BOOK (R138) served; fields: tank 1, choice 1, value mL 4. -/
  | setTankBook (e : Env) (station tag : Nat) (fields : Bytes)
  /-- ZERO_CONSUMER (R139) served; fields: position 1. -/
  | zeroConsumer (e : Env) (station tag : Nat) (fields : Bytes)
  /-- TOW_NODE_ACCESS (R96) served; fields: node address 1, direction 1, offset 1, length 1, data 0–16. -/
  | towNodeAccess (e : Env) (station tag : Nat) (fields : Bytes)
  /-- CLEAR_COUNTERS (R179) served; no fields. -/
  | clearCounters (e : Env) (station tag : Nat) (fields : Bytes)
  /-- RESTART (R185) served; no fields. -/
  | restart (e : Env) (station tag : Nat) (fields : Bytes)
  /-- LOAD_INACTIVITY_TIMEOUT (R182). -/
  | loadInactivityTimeout (e : Env)
  /-- SCRUB_CHECK (R188), with the ECC's findings in the region read. -/
  | scrubCheck (e : Env) (found : ScrubRead)
  /-- DISCARDED_FRAME (R192): a frame that passed the line checks, by line, destination, source and kind. -/
  | discardedFrame (e : Env) (line : Line) (dst src kind : Nat)
  deriving DecidableEq, Repr

/-- The circumstances of a command. -/
def Instr.env : Instr → Env
  | .coldStart e _ _ => e
  | .controlRestart e => e
  | .helmFrame e _ _ _ => e
  | .noneEvent e _ _ _ => e
  | .take e _ _ => e
  | .release e _ _ => e
  | .refuse e _ _ => e
  | .seize e _ _ => e
  | .syncOn e _ _ _ => e
  | .syncOff e _ _ _ => e
  | .ack e _ _ => e
  | .split e _ _ => e
  | .abortSplit e _ _ => e
  | .recouple e _ _ => e
  | .abortRejoin e _ _ => e
  | .transferStop e _ _ => e
  | .silenceTimerExpiry e _ => e
  | .transferTimerExpiry e => e
  | .orphanTimerExpiry e => e
  | .leverInvalidTimerExpiry e _ => e
  | .followUpFrame e _ => e
  | .stationLineIdleGap e => e
  | .transmitReadbackMismatch e => e
  | .lineCheckFailure e _ _ => e
  | .cycleBoundary e => e
  | .machineryWindowClose e => e
  | .machineryReport e _ _ _ _ => e
  | .dwellTimerExpiry e _ => e
  | .confirmTimerExpiry e _ => e
  | .pollCycleStart e => e
  | .pollWindowClose e => e
  | .pollReply e _ _ _ => e
  | .accessAnswer e _ _ _ => e
  | .nodeAccessTimeout e => e
  | .rejoinTimerExpiry e => e
  | .startConfirmTimerExpiry e => e
  | .trailerTimerExpiry e => e
  | .accountSaveTimer e => e
  | .managementFrame e _ _ _ => e
  | .unknownRequest e _ _ _ _ => e
  | .loadBegin e _ _ _ => e
  | .loadData e _ _ _ => e
  | .loadEnd e _ _ _ => e
  | .readTable e _ _ _ => e
  | .readState e _ _ _ => e
  | .nextAlarm e _ _ _ => e
  | .startTransfer e _ _ _ => e
  | .abortTransfer e _ _ _ => e
  | .bunkerReceipt e _ _ _ => e
  | .setTankBook e _ _ _ => e
  | .zeroConsumer e _ _ _ => e
  | .towNodeAccess e _ _ _ => e
  | .clearCounters e _ _ _ => e
  | .restart e _ _ _ => e
  | .loadInactivityTimeout e => e
  | .scrubCheck e _ => e
  | .discardedFrame e _ _ _ _ => e

end Sys2Proof
end

