-- ==== Sys2Proof/Machine/Bytes.lean ====
section
/-! DEFINITION. Bytes: reading and writing the fields of frames and table images (most significant byte first,
signed fields two's complement: section 11.2), and the CRC-16 of section 11.2. -/

namespace Sys2Proof.Machine

/-- Byte `i` of a run of bytes, as a number; 0 beyond its end. -/
def byteAt (b : Bytes) (i : Nat) : Nat := (b.getD i 0).toNat

/-- The unsigned 16-bit field at byte `i`. -/
def u16 (b : Bytes) (i : Nat) : Nat := byteAt b i * 256 + byteAt b (i + 1)

/-- The unsigned 24-bit field at byte `i`. -/
def u24 (b : Bytes) (i : Nat) : Nat := u16 b i * 256 + byteAt b (i + 2)

/-- The unsigned 32-bit field at byte `i`. -/
def u32 (b : Bytes) (i : Nat) : Nat := u16 b i * 65536 + u16 b (i + 2)

/-- A 16-bit number read as two's complement. -/
def signed16 (n : Nat) : Int := if n < 32768 then (n : Int) else (n : Int) - 65536

/-- The signed 16-bit field at byte `i`. -/
def s16 (b : Bytes) (i : Nat) : Int := signed16 (u16 b i)

/-- Bit `k` of a number. -/
def bitOf (n k : Nat) : Bool := n / 2 ^ k % 2 == 1

/-- The number whose bits are the list's, bit 0 first. -/
def bitsToNat (bs : List Bool) : Nat := bs.foldr (fun b acc => (if b then 1 else 0) + 2 * acc) 0

/-- One byte, `n` modulo 256. -/
def byte (n : Nat) : Byte := BitVec.ofNat 8 n

/-- `n` modulo 256^k in `k` bytes, most significant first. -/
def beBytes : Nat → Nat → Bytes
  | 0, _ => []
  | k + 1, n => beBytes k (n / 256) ++ [byte n]

/-- A signed quantity in `k` bytes, two's complement. -/
def beInt (k : Nat) (x : Int) : Bytes := beBytes k (x % (256 ^ k : Nat)).toNat

/-- An absent field of `k` bytes: all ones (section 11.3). -/
def absentBytes (k : Nat) : Bytes := List.replicate k 0xFF

/-- A yes or no in one byte (section 11.3). -/
def boolByte (b : Bool) : Bytes := [if b then 1 else 0]

/-- An optional field of `k` bytes. -/
def optNat (k : Nat) (x : Option Nat) : Bytes :=
  match x with
  | some n => beBytes k n
  | none => absentBytes k

/-- An optional signed field of `k` bytes. -/
def optInt (k : Nat) (x : Option Int) : Bytes :=
  match x with
  | some n => beInt k n
  | none => absentBytes k

/-- One bit step of the CRC: polynomial 0x1021, most significant bit first, no reflection. -/
def crcShift (c : Nat) : Nat :=
  if c < 32768 then c * 2 else (c * 2 % 65536) ^^^ 0x1021

/-- One byte step of the CRC. -/
def crcByte (c : Nat) (b : Byte) : Nat :=
  Nat.iterate crcShift 8 (c ^^^ (b.toNat * 256))

/-- The CRC-16 of a run of bytes, initial value 0xFFFF, no final inversion (section 11.2). -/
def crc16 (b : Bytes) : Nat := b.foldl crcByte 0xFFFF

/-- `data` written into `b` at `offset`, replacing what was there (R181). -/
def overwrite (b : Bytes) (offset : Nat) (data : Bytes) : Bytes :=
  b.take offset ++ data ++ b.drop (offset + data.length)

end Sys2Proof.Machine
end

