-- ==== Sys2Proof/Config.lean ====
section
/-! DEFINITION. What the part fixes once: the times and addresses the manual states, and the free values,
which are constants without a body so that nothing can be proved of them. -/

namespace Sys2Proof.Config

/-- Silence time of a station (R3). -/
def silenceTime : Nat := ms 400
/-- Transfer timer of a pending request (section 1.3). -/
def transferTime : Nat := sec 10
/-- Orphan timer (R13). -/
def orphanTime : Nat := sec 5
/-- Lever invalid timer (R16). -/
def leverInvalidTime : Nat := sec 2
/-- Spacing of follow-up frames (R19). -/
def followUpSpacing : Nat := ms 100
/-- Confirm timer of an engagement (R32). -/
def confirmTime : Nat := sec 4
/-- Reply window of a poll (R86). -/
def pollWindow : Nat := ms 4
/-- Time limit of a node transaction (R97). -/
def accessLimit : Nat := ms 200
/-- Within-tolerance time that clears a follow fault (R62). -/
def followClearTime : Nat := sec 2
/-- Discrepancy time of a tank (R143). -/
def discrepancyTime : Nat := sec 30
/-- Start confirm timer of a run (R152). -/
def startConfirmTime : Nat := sec 5
/-- Trailer timer (R155). -/
def trailerTime : Nat := sec 10
/-- Spacing of account saves (R144). -/
def saveSpacing : Nat := sec 60
/-- Inactivity timer of the load buffer (R180). -/
def loadInactivityTime : Nat := sec 5
/-- Spacing of scrub checks (R188). -/
def scrubSpacing : Nat := ms 4600
/-- Time the cycle mark takes on the machinery line: 9 bytes at 1 Mbit/s (section 11.2). -/
def markTime : Nat := 9

/-- The broadcast address of every line (section 2.3). -/
def broadcast : Nat := 0xFF
/-- The part's own address on the machinery and tow lines (section 2.3). -/
def fieldAddress : Nat := 0xFE

/-- FREE VALUE (R193): when a follow-up frame and a management reply both wait at one idle gap, "either may
go first"; `true` says that the follow-up frame does. It has no body: it is applied to the State's counter
of such choices, so every choice is unconstrained. -/
opaque gapSendsFollowUpFirst : Nat → Bool

/-- FREE VALUE (R74, R79): byte `i` of a report that ends before it. R74 takes a report of the right kind
whatever its length, and the manual gives no value to a field the report does not carry. It has no body: it is
applied to the State's counter of free choices and to the byte's place. -/
opaque missingByte : Nat → Nat → Byte

end Sys2Proof.Config
end

