-- ==== Sys2Proof/Machine/State.lean ====
section
/-! DEFINITION. Everything the manual gives the part, as plain data, block by block (spec/00_scope.md section
2.1), with the values right after a cold start of a part whose retained store has never been written.
Numbered instances are indexed from 0: station n, engine n, channel n, actuator position n, consumer
position n, tank index n, table id n and condition code n stand at index n − 1 of their banks. Timers hold
the moment at which they expire; a stopped timer is `none`. -/

namespace Sys2Proof.Machine

/-! ## Station unit (chapter 1) -/

/-- Station class (section 1.1). -/
inductive StationClass where
  | wheelhouse
  | engineRoom
  deriving DecidableEq, Repr

/-- Presence of a station (R3). -/
inductive Presence where
  | absent
  | present
  | silent
  deriving DecidableEq, Repr

/-- Event results in the order of section 1.2.2. -/
inductive EventResult where
  | none
  | accepted
  | pending
  | mismatch
  | busy
  | timeout
  | notHolder
  | class
  | state
  | refused
  | seized
  deriving DecidableEq, Repr

/-- A helm frame's contents (section 11.3), values as received. -/
structure HelmFrame where
  levers : Vector Int 4
  valid : Vector Bool 4
  aux : Vector Bool 4
  steering : Int
  flanking : Int
  code : Nat
  count : Nat
  deriving DecidableEq, Repr

/-- A station record (section 1.1). -/
structure Station where
  cls : StationClass := .engineRoom
  fitted : Bool := true
  presence : Presence := .absent
  good : Nat := 0
  silence : Option Moment := none
  frame : Option HelmFrame := none
  baseline : Option Nat := none
  result : EventResult := .none
  deriving DecidableEq, Repr

/-- The values in use (section 1.4). -/
structure ValuesInUse where
  levers : Vector Int 4 := Vector.replicate 4 0
  steering : Int := 0
  flanking : Int := 0
  aux : Vector Bool 4 := Vector.replicate 4 false
  deriving DecidableEq, Repr

/-- The station unit: the four records, the authority state, the values in use with each channel's invalid
timer and lever fault, and the next scheduled follow-up moment. -/
structure StationUnit where
  stations : Vector Station 4 := Vector.replicate 4 {}
  holder : Option (Fin 4) := none
  requester : Option (Fin 4) := none
  transferTimer : Option Moment := none
  orphanTimer : Option Moment := none
  inUse : ValuesInUse := {}
  invalidTimer : Vector (Option Moment) 4 := Vector.replicate 4 none
  leverFault : Vector Bool 4 := Vector.replicate 4 false
  followUpNext : Moment := 0
  deriving DecidableEq, Repr

/-! ## Propulsion unit (chapter 2) -/

/-- Gear states in the order of section 11.2. -/
inductive GearState where
  | neutral
  | ahead
  | astern
  | shifting
  deriving DecidableEq, Repr

/-- A direction of engagement. -/
inductive Direction where
  | ahead
  | astern
  deriving DecidableEq, Repr

/-- Disengage phases (section 2.1). -/
inductive Phase where
  | rpmWait
  | dwell
  | complete
  deriving DecidableEq, Repr

/-- Member status in a sync group (section 2.1). -/
inductive Member where
  | outside
  | lead
  | waiting
  | trimmed
  | dropped
  deriving DecidableEq, Repr

/-- Report standing of an engine (R27, R28). -/
inductive ReportStanding where
  | noReport
  | current
  | lost
  deriving DecidableEq, Repr

/-- The RUNNING, ALARM and LOCAL flags of an engine report (R29). -/
structure ReportFlags where
  running : Bool
  alarm : Bool
  local_ : Bool
  deriving DecidableEq, Repr

/-- A speed command in rpm and a gear command (NEUTRAL 0, AHEAD 1, ASTERN 2). -/
structure EngineCommand where
  rpm : Nat
  gear : Nat
  deriving DecidableEq, Repr

/-- An engine record (section 2.1). `unconfirmed` remembers that the engagement in force has not been
confirmed by a report (R29, R35); `ageFrom` is the moment from which the report age counts; `lastCommand` is
the command of the most recent demand computation, which a COMMAND slot repeats (R73). The gear command is a
function of the gear state (section 2.3) and has no field of its own. -/
structure Engine where
  gear : GearState := .neutral
  lastDir : Option Direction := none
  shiftTarget : Option Direction := none
  phase : Phase := .complete
  dwell : Option Moment := none
  confirm : Option Moment := none
  unconfirmed : Bool := false
  gearFault : Bool := false
  setpoint : Nat := 0
  trim : Int := 0
  member : Member := .outside
  rpm : Option Nat := none
  confirmedGear : Option Nat := none
  flags : Option ReportFlags := none
  standing : ReportStanding := .noReport
  fresh : Bool := false
  ageFrom : Moment := 0
  lastCommand : Option EngineCommand := none
  deriving DecidableEq, Repr

/-- The propulsion unit: four engine records and one sync flag per channel. -/
structure PropUnit where
  engines : Vector Engine 4 := Vector.replicate 4 {}
  sync : Vector Bool 4 := Vector.replicate 4 false
  deriving DecidableEq, Repr

/-! ## Steering unit (chapter 3) -/

/-- Check standing of an actuator (R63). -/
inductive CheckStanding where
  | active
  | suspended
  deriving DecidableEq, Repr

/-- An actuator record (section 3.1). `fault` is the fault state (FAULT when true); `nodeLost` is the loss
of the node as the machinery scheduler handed it over (R63, R78). -/
structure Actuator where
  target : Int := 0
  commanded : Int := 0
  reported : Option Int := none
  lastComputation : Option Moment := none
  standing : CheckStanding := .suspended
  outStart : Option Moment := none
  fault : Bool := false
  inStart : Option Moment := none
  frozen : Option Int := none
  usable : Bool := false
  nodeLost : Bool := false
  deriving DecidableEq, Repr

/-- The steering unit: MR1, MR2, FR1 to FR4, BOW. -/
structure SteerUnit where
  actuators : Vector Actuator 7 := Vector.replicate 7 {}
  deriving DecidableEq, Repr

/-! ## Machinery scheduler (chapter 4) -/

/-- Node state on the machinery line (section 4.5). -/
inductive MachNodeState where
  | unknown
  | present
  | lost
  deriving DecidableEq, Repr

/-- A machinery node record (section 4.5); the report age counts from `lastGood`. -/
structure MachNode where
  state : MachNodeState := .unknown
  misses : Nat := 0
  good : Nat := 0
  total : Nat := 0
  lastGood : Option Moment := none
  deriving DecidableEq, Repr

/-- Slot kinds in the order of R68. -/
inductive SlotKind where
  | command
  | exchange
  | call
  deriving DecidableEq, Repr

/-- The open slot window: the slot's node, content code (section 11.6) and kind, its opening and closing
moments, and whether its good report has been taken. -/
structure MachWindow where
  node : Nat
  content : Nat
  kind : SlotKind
  openAt : Moment
  closeAt : Moment
  taken : Bool := false
  deriving DecidableEq, Repr

/-- The machinery scheduler. `slotsLeft` lists the positions of the slots whose turn is still to come in the
running cycle; `pendingTable` is the pending slot table of R71. The slot table in use is the image of table
slot 5. -/
structure Scheduler where
  running : Bool := false
  cycleCount : Nat := 0
  nextBoundary : Moment := 0
  slotsLeft : List Nat := []
  window : Option MachWindow := none
  pendingTable : Option Bytes := none
  nodes : Vector MachNode 30 := Vector.replicate 30 {}
  deriving DecidableEq, Repr

/-! ## Tow line controller (chapter 5) -/

/-- Tow node states (section 5.3). -/
inductive TowNodeState where
  | absent
  | present
  | silent
  | fault
  deriving DecidableEq, Repr

/-- A node's last good reply (section 5.3). -/
structure TowReply where
  codes : Bytes
  condition : Nat
  inBits : Byte
  bow : Option Int
  deriving DecidableEq, Repr

/-- A tow node record (section 5.3); the reply age counts from `lastGood`. -/
structure TowNode where
  state : TowNodeState := .absent
  good : Nat := 0
  missed : Nat := 0
  total : Nat := 0
  reply : Option TowReply := none
  lastGood : Option Moment := none
  deriving DecidableEq, Repr

/-- A poll's reply window: the entry polled (counted from 0) and the moment the window closes. -/
structure PollWindow where
  entry : Nat
  closeAt : Moment
  deriving DecidableEq, Repr

/-- The node transaction (R96, R97): `deadline` is `none` while it waits for the poll in progress to end,
and the end of its 200 ms limit once its frame has begun to leave. -/
structure NodeAccess where
  address : Nat
  write : Bool
  offset : Nat
  length : Nat
  data : Bytes
  deadline : Option Moment := none
  deriving DecidableEq, Repr

/-- The tow line controller. `nodes` holds one record per make-up entry; `pos` is the number of entries
polled so far in the cycle (so the poll position is entry `pos`); `complete` says that the cycle has ended
and the controller waits for `nextDue`; `window` is the window of the poll in progress, and `spent` that of a
poll ended by its reply after which the part has sent no further frame (R87: a second reply in it is stray);
`restartPending` is a poll restart not yet acted on (R98). -/
structure TowLine where
  running : Bool := false
  nodes : List TowNode := []
  pos : Nat := 0
  cycleStart : Moment := 0
  complete : Bool := false
  nextDue : Moment := 0
  window : Option PollWindow := none
  spent : Option PollWindow := none
  restartPending : Bool := false
  access : Option NodeAccess := none
  deriving DecidableEq, Repr

/-! ## Coupling supervisor (chapter 6) -/

/-- Coupling states (section 6.2). -/
inductive CouplingState where
  | unknown
  | unmade
  | made
  | slack
  | overload
  | parted
  | opened
  deriving DecidableEq, Repr

/-- What made a coupling UNKNOWN (section 6.2). -/
inductive UnknownCause where
  | start
  | nodeSilent
  | nodeFault (code : Nat)
  | sensorFault
  deriving DecidableEq, Repr

/-- A coupling record (section 6.2). The ratio ρ is a function of the last tension and the entry's rated
tension. -/
structure Coupling where
  state : CouplingState := .unknown
  last : Option Nat := none
  taut : Nat := 0
  slack : Nat := 0
  sensor : Nat := 0
  cause : Option UnknownCause := some .start
  deriving DecidableEq, Repr

/-- Split modes (section 6.4). -/
inductive SplitMode where
  | normal
  | splitting
  | split
  | rejoining
  deriving DecidableEq, Repr

/-- The coupling supervisor; `rejoinStart` is the moment the running rejoin timer was started. -/
structure CouplingUnit where
  records : List Coupling := []
  cTow : Nat := 200
  startLimit : Bool := true
  mode : SplitMode := .normal
  rejoinStart : Option Moment := none
  deriving DecidableEq, Repr

/-! ## Fuel unit (chapter 7) -/

/-- A consumer account, the retained fields (section 7.2). -/
structure Account where
  total : Int := 0
  remainder : Int := 0
  unmetered : Nat := 0
  lastTemp : Option Int := none
  valid : Bool := true
  deriving DecidableEq, Repr

/-- The held estimate of a consumer (section 7.2). -/
structure HeldEstimate where
  net : Int
  factor : Int
  deriving DecidableEq, Repr

/-- A consumer: its account and its volatile working state (section 7.2). `tempCode` is the temperature code
of the last report entry (R133). -/
structure Consumer where
  account : Account := {}
  baseValid : Bool := false
  baseSupply : Nat := 0
  baseReturn : Nat := 0
  gap : Nat := 0
  held : Option HeldEstimate := none
  meterFault : Bool := false
  tempCode : Option Nat := none
  deriving DecidableEq, Repr

/-- A tank book (section 7.3). -/
structure Book where
  opening : Int := 0
  receipts : Int := 0
  moveIn : Int := 0
  moveOut : Int := 0
  consumption : Int := 0
  book : Int := 0
  valid : Bool := true
  deriving DecidableEq, Repr

/-- Gauge standings (R140). -/
inductive GaugeStanding where
  | none
  | noReading
  | current
  | lost
  deriving DecidableEq, Repr

/-- Feed states (R141). -/
inductive FeedState where
  | normal
  | low
  | lowLow
  | empty
  deriving DecidableEq, Repr

/-- A tank: its book, its gauge (`lastWasLevel` says that the stored entry was a level, R140), its three
below flags (R141) and its discrepancy state (R143). -/
structure Tank where
  book : Book := {}
  standing : GaugeStanding := .none
  level : Option Nat := none
  levelAt : Option Moment := none
  lastWasLevel : Bool := false
  lowFlag : Bool := false
  lowLowFlag : Bool := false
  emptyFlag : Bool := false
  discrepancy : Bool := false
  runStart : Option Moment := none
  deriving DecidableEq, Repr

/-- The fuel unit; `saveDue` is the next moment of the save timer (R144). -/
structure FuelUnit where
  consumers : Vector Consumer 6 := Vector.replicate 6 {}
  tanks : Vector Tank 12 := Vector.replicate 12 {}
  saveDue : Moment := sec 60
  deriving DecidableEq, Repr

/-! ## Transfer controller (chapter 8) -/

/-- Run states (R149). -/
inductive RunState where
  | idle
  | starting
  | running
  | trailer
  deriving DecidableEq, Repr

/-- End causes in the order of R149. -/
inductive EndCause where
  | target
  | destinationHigh
  | sourceLow
  | meterFault
  | pumpFault
  | abort
  | stop
  | restart
  deriving DecidableEq, Repr

/-- Reply statuses in the order of section 11.3. -/
inductive Status where
  | ok
  | busy
  | rights
  | notOpen
  | crc
  | badTable
  | state
  | range
  | permission
  | timeout
  | unknown
  deriving DecidableEq, Repr

/-- A run record (R149). `origin` is the rule index 1–4 of an AUTO run and `none` for MANUAL; `started` is
the moment of acceptance, from which the duration counts until the run ends. -/
structure Run where
  number : Nat
  source : Nat
  dest : Nat
  target : Nat
  clamped : Bool
  origin : Option Nat
  moved : Int := 0
  trailer : Int := 0
  cause : Option EndCause := none
  incomplete : Bool := false
  started : Moment
  duration : Option Nat := none
  deriving DecidableEq, Repr

/-- The pump meter (R151): the baseline is `none` while it is invalid. -/
structure PumpMeter where
  baseline : Option Nat := none
  gap : Nat := 0
  remainder : Int := 0
  lastTemp : Option Int := none
  deriving DecidableEq, Repr

/-- An auto-refill rule's latch, waiting flag and last refusal (section 8.5). -/
structure RuleState where
  latch : Bool := false
  waiting : Bool := false
  lastRefusal : Option Status := none
  deriving DecidableEq, Repr

/-- The transfer controller. The pump order is a function of the run state and the run record (R150). -/
structure TransferUnit where
  state : RunState := .idle
  run : Option Run := none
  history : List Run := []
  counter : Nat := 0
  pump : PumpMeter := {}
  idleCount : Nat := 0
  confirmTimer : Option Moment := none
  trailerTimer : Option Moment := none
  zeroCount : Nat := 0
  rules : Vector RuleState 4 := Vector.replicate 4 {}
  deriving DecidableEq, Repr

/-! ## Condition unit (chapter 9) -/

/-- Alarm states (R164). -/
inductive AlarmState where
  | normal
  | activeUnacked
  | activeAcked
  | clearedUnacked
  deriving DecidableEq, Repr

/-- The condition unit: source flag and alarm state of each code. The reaction ceilings, the alarm lines and
the summary are recomputed by the part at every change they depend on (R164, R174) and are functions of this
state and the reaction table, with no storage of their own. -/
structure CondUnit where
  source : Vector Bool 45 := Vector.replicate 45 false
  alarm : Vector AlarmState 45 := Vector.replicate 45 .normal
  deriving DecidableEq, Repr

/-! ## Table store (chapter 10) -/

/-- A table slot (section 10.1): the image in use (its length is the list's), its CRC, validity and fault
flag. -/
structure TableSlot where
  image : Bytes := []
  crc : Nat := 0
  valid : Bool := false
  fault : Bool := false
  deriving DecidableEq, Repr

/-- The load buffer (section 10.4): owner station address, table id, the declared length's bytes, and the
moment the inactivity timer expires. -/
structure LoadBuffer where
  owner : Nat
  table : Nat
  bytes : Bytes
  deadline : Moment
  deriving DecidableEq, Repr

/-- The LOAD BEGIN in the waiting-load slot, with its tag (section 10.4). -/
structure WaitingLoad where
  station : Nat
  tag : Nat
  table : Nat
  length : Nat
  deriving DecidableEq, Repr

/-- A management request (section 11.3): sender, request kind, tag and the fields that follow. `short` marks
a payload that ends before its tag: its tag, and of an empty payload its kind too, stand at 0 (R178: it joins
the queue like any other). -/
structure MgmtRequest where
  station : Nat
  kind : Nat
  tag : Nat
  fields : Bytes
  short : Bool := false
  deriving DecidableEq, Repr

/-- What follows when the reply to the request at the head of the queue has been sent (R182, R183, R185). -/
inductive AfterReply where
  | nothing
  | takeWaiting
  | freeBuffer
  | restart
  deriving DecidableEq, Repr

/-- How far the request at the head of the queue has come (R178): not yet served, handed to another block,
or answered with its reply still to be sent. -/
inductive HeadState where
  | waiting
  | handed
  | answered (after : AfterReply)
  deriving DecidableEq, Repr

/-- A table region of the retained store; `damaged` marks a copy whose last write failed (R187). -/
structure RetainedTable where
  image : Bytes
  crc : Nat
  damaged : Bool := false
  deriving DecidableEq, Repr

/-- The fuel region of the retained store (R144). -/
structure FuelRegion where
  accounts : Vector Account 6
  books : Vector Book 12
  deriving DecidableEq, Repr

/-- The retained store (section 10.6), region by region; `none` is a region that has never been written. -/
structure Retained where
  tables : Vector (Option RetainedTable) 13 := Vector.replicate 13 none
  fuel : Option FuelRegion := none
  history : Option (List Run) := none
  counter : Option Nat := none
  splitMode : Option SplitMode := none
  deriving DecidableEq, Repr

/-- What a write to the retained store carries, tables apart (R187): the fuel region, the run history, the run
counter, the split mode. -/
inductive StoreItem where
  | fuel
  | history
  | counter
  | splitMode
  deriving DecidableEq, Repr

/-- The region an item stands in (section 10.6). -/
def StoreItem.region : StoreItem → Region
  | .fuel => .fuel
  | .history => .transfer
  | .counter => .transfer
  | .splitMode => .splitMode

/-- The table store. `owed` lists the items whose last write failed and is to be made again (R187); `restartDue`
says that the OK reply to RESTART has been sent (R185); `scrubNext` is the index of the slot the scrub checks
next and `scrubLast` the moment its spacing counts from. -/
structure TableStore where
  slots : Vector TableSlot 13 := Vector.replicate 13 {}
  buffer : Option LoadBuffer := none
  waitingLoad : Option WaitingLoad := none
  queue : List MgmtRequest := []
  head : HeadState := .waiting
  restartDue : Bool := false
  corrected : Nat := 0
  writeFailures : Nat := 0
  owed : List StoreItem := []
  scrubNext : Fin 13 := 0
  scrubLast : Moment := 0
  retained : Retained := {}
  deriving DecidableEq, Repr

/-! ## Lines (chapter 11) -/

/-- The counters every line keeps (R194). -/
structure BasicCounters where
  framing : Nat := 0
  length : Nat := 0
  crc : Nat := 0
  discarded : Nat := 0
  deriving DecidableEq, Repr

/-- The line counters of R194. -/
structure LineCounters where
  station : BasicCounters := {}
  stationGood : Nat := 0
  stationTransmit : Nat := 0
  machinery : BasicCounters := {}
  machWrongSource : Nat := 0
  machStray : Nat := 0
  machLate : Nat := 0
  machOverruns : Nat := 0
  tow : BasicCounters := {}
  towWrongSource : Nat := 0
  towMalformed : Nat := 0
  towStray : Nat := 0
  towLate : Nat := 0
  deriving DecidableEq, Repr

/-- A frame the part sends (section 11.2), without its CRC. -/
structure Frame where
  dst : Nat
  src : Nat
  kind : Nat
  payload : Bytes
  deriving DecidableEq, Repr

/-- A management reply waiting for the station line (section 11.3). `head` marks the reply to the request at
the head of the queue. -/
structure Reply where
  station : Nat
  kind : Nat
  tag : Nat
  status : Status
  fields : Bytes
  head : Bool
  deriving DecidableEq, Repr

/-- The frame last begun on the station line and whether that was its second attempt (R193). -/
structure SentFrame where
  frame : Frame
  second : Bool
  deriving DecidableEq, Repr

/-- The station line's sending side (R193): replies waiting in the order composed, follow-up frames waiting,
the frame to be sent once more, and the frame last begun. -/
structure StationTx where
  replies : List Reply := []
  followUps : Nat := 0
  retry : Option Frame := none
  last : Option SentFrame := none
  deriving DecidableEq, Repr

/-- MODEL'S OWN: the frames the part has put on each line, newest first. -/
structure SentLog where
  station : List Frame := []
  machinery : List Frame := []
  tow : List Frame := []
  deriving DecidableEq, Repr

/-! ## The whole part -/

/-- The state of the part. `now` is the part's clock and `epoch` the end of the last cold start, both in
units of 10 µs. MODEL'S OWN fields: `readBack` (what the read-back of the words written at the step being
taken finds), `draws` (how many free choices have been made), `sent` (the output record) and `pending` (the
commands waiting, first in, first out). -/
structure State where
  now : Moment
  epoch : Moment
  straps : Straps
  station : StationUnit
  prop : PropUnit
  steer : SteerUnit
  mach : Scheduler
  towLine : TowLine
  coup : CouplingUnit
  fuel : FuelUnit
  transfer : TransferUnit
  cond : CondUnit
  store : TableStore
  lines : LineCounters
  tx : StationTx
  sent : SentLog
  readBack : ReadBack
  draws : Nat
  pending : List Instr
  deriving DecidableEq, Repr

/-- Reasons for a fault: there are none. The manual gives every command an effect or says that it changes
nothing, in every state, so no step of the part ends in a fault (safe: nothing is lost by it). -/
inductive Fault where
  deriving DecidableEq, Repr

/-- Reasons for a refusal. -/
inductive Refusal where
  /-- Raised by `exec` alone, for a row of the table that has no meaning yet (safe: it answers nothing about
  the row). No arm raises it in this model. -/
  | notModelled (mnemonic : String)
  deriving DecidableEq, Repr

/-! ## Named updates, one per field; the lemmas about them stand in Laws/State.lean -/

def State.withNow (s : State) (x : Moment) : State := { s with now := x }
def State.withEpoch (s : State) (x : Moment) : State := { s with epoch := x }
def State.withStraps (s : State) (x : Straps) : State := { s with straps := x }
def State.withStation (s : State) (x : StationUnit) : State := { s with station := x }
def State.withProp (s : State) (x : PropUnit) : State := { s with prop := x }
def State.withSteer (s : State) (x : SteerUnit) : State := { s with steer := x }
def State.withMach (s : State) (x : Scheduler) : State := { s with mach := x }
def State.withTowLine (s : State) (x : TowLine) : State := { s with towLine := x }
def State.withCoup (s : State) (x : CouplingUnit) : State := { s with coup := x }
def State.withFuel (s : State) (x : FuelUnit) : State := { s with fuel := x }
def State.withTransfer (s : State) (x : TransferUnit) : State := { s with transfer := x }
def State.withCond (s : State) (x : CondUnit) : State := { s with cond := x }
def State.withStore (s : State) (x : TableStore) : State := { s with store := x }
def State.withLines (s : State) (x : LineCounters) : State := { s with lines := x }
def State.withTx (s : State) (x : StationTx) : State := { s with tx := x }
def State.withSent (s : State) (x : SentLog) : State := { s with sent := x }
def State.withReadBack (s : State) (x : ReadBack) : State := { s with readBack := x }
def State.withDraws (s : State) (x : Nat) : State := { s with draws := x }
def State.withPending (s : State) (x : List Instr) : State := { s with pending := x }

/-! ## Reset -/

/-- The part right after a cold start with every strap low and a retained store that has never been written
(R189): every table INVALID, so every station is fitted and of class ENGINE ROOM (R1), TABLE MISSING is
active and unacknowledged (R176, R175), the tow ceiling stands at the default floor 200 with the start limit
active (R126, R104), accounts and books are 0 and VALID, the run counter is 0, split mode is NORMAL, no
machinery or poll cycle runs, and the first follow-up frame is due at once (R19). Its queue of commands is
empty. -/
def State.reset : State where
  now := 0
  epoch := 0
  straps := {}
  station := {}
  prop := {}
  steer := {}
  mach := {}
  towLine := {}
  coup := {}
  fuel := {}
  transfer := {}
  cond := { source := (Vector.replicate 45 false).set 44 true
            alarm := (Vector.replicate 45 AlarmState.normal).set 44 .activeUnacked }
  store := {}
  lines := {}
  tx := {}
  sent := {}
  readBack := {}
  draws := 0
  pending := []

end Sys2Proof.Machine
end

