-- ==== Sys2Proof/Machine/Operands.lean ====
section
/-! DEFINITION. The operands of the commands: the payloads of the frames of chapter 11, read and composed. -/

namespace Sys2Proof.Machine

/-! ## Frames as bytes (section 11.2) -/

/-- The bytes of a frame on the line: destination, source, kind, length, payload, CRC-16. -/
def Frame.bytes (f : Frame) : Bytes :=
  let body := [byte f.dst, byte f.src, byte f.kind, byte f.payload.length] ++ f.payload
  body ++ beBytes 2 (crc16 body)

/-! ## Station line (section 11.3) -/

/-- The helm frame in a payload; a payload whose length is not 15 holds none (R192). -/
def helmFrameOf (b : Bytes) : Option HelmFrame :=
  if b.length = 15 then
    some
      { levers := #v[s16 b 0, s16 b 2, s16 b 4, s16 b 6]
        valid := #v[bitOf (byteAt b 8) 0, bitOf (byteAt b 8) 1, bitOf (byteAt b 8) 2, bitOf (byteAt b 8) 3]
        aux := #v[bitOf (byteAt b 8) 4, bitOf (byteAt b 8) 5, bitOf (byteAt b 8) 6, bitOf (byteAt b 8) 7]
        steering := s16 b 9
        flanking := s16 b 11
        code := byteAt b 13
        count := byteAt b 14 }
  else none

/-- The event codes of section 11.3. -/
inductive EventKind where
  | none
  | take
  | release
  | refuse
  | seize
  | ack
  | split
  | abortSplit
  | recouple
  | abortRejoin
  | transferStop
  | syncOn (channel : Fin 4)
  | syncOff (channel : Fin 4)
  | unknown
  deriving DecidableEq, Repr

/-- The event a code names: SYNC ON c is 0x10 + c and SYNC OFF c is 0x20 + c for c from 1 to 4; any other
code is an unknown event (section 11.3, R4). -/
def eventKindOf (code : Nat) : EventKind :=
  match code with
  | 0x00 => .none
  | 0x01 => .take
  | 0x02 => .release
  | 0x03 => .refuse
  | 0x04 => .seize
  | 0x05 => .ack
  | 0x06 => .split
  | 0x07 => .abortSplit
  | 0x08 => .recouple
  | 0x09 => .abortRejoin
  | 0x0A => .transferStop
  | 0x11 => .syncOn 0
  | 0x12 => .syncOn 1
  | 0x13 => .syncOn 2
  | 0x14 => .syncOn 3
  | 0x21 => .syncOff 0
  | 0x22 => .syncOff 1
  | 0x23 => .syncOff 2
  | 0x24 => .syncOff 3
  | _ => .unknown

/-- Position of an event result in section 1.2.2. -/
def EventResult.code : EventResult → Nat
  | .none => 0
  | .accepted => 1
  | .pending => 2
  | .mismatch => 3
  | .busy => 4
  | .timeout => 5
  | .notHolder => 6
  | .class => 7
  | .state => 8
  | .refused => 9
  | .seized => 10

/-- The status byte of a management reply (section 11.3). -/
def Status.code : Status → Nat
  | .ok => 0
  | .busy => 1
  | .rights => 2
  | .notOpen => 3
  | .crc => 4
  | .badTable => 5
  | .state => 6
  | .range => 7
  | .permission => 8
  | .timeout => 9
  | .unknown => 10

/-- Whether the part knows a request kind (section 11.3). -/
def kindKnown (kind : Nat) : Bool := 0x01 ≤ kind && kind ≤ 0x0E

/-- Whether a request's fields have a length that fits its kind (section 11.3, R178). -/
def fieldsFit (kind n : Nat) : Bool :=
  match kind with
  | 0x01 => n == 3
  | 0x02 => 3 ≤ n && n ≤ 26
  | 0x03 => n == 2
  | 0x04 => n == 4
  | 0x05 => n == 3
  | 0x06 => n == 0
  | 0x07 => n == 6
  | 0x08 => n == 0
  | 0x09 => n == 5
  | 0x0A => n == 6
  | 0x0B => n == 1
  | 0x0C => 4 ≤ n && n ≤ 20
  | 0x0D => n == 0
  | 0x0E => n == 0
  | _ => false

/-- A management reply as a frame: echoed kind and tag, status, and for OK the fields (section 11.3). -/
def Reply.frame (own : Nat) (r : Reply) : Frame where
  dst := r.station
  src := own
  kind := 0x03
  payload := [byte r.kind, byte r.tag, byte r.status.code] ++ (if r.status = .ok then r.fields else [])

/-! ## Codes of enumerated values (section 11.2: position in the list that first gives them) -/

def GearState.code : GearState → Nat
  | .neutral => 0
  | .ahead => 1
  | .astern => 2
  | .shifting => 3

def SplitMode.code : SplitMode → Nat
  | .normal => 0
  | .splitting => 1
  | .split => 2
  | .rejoining => 3

def RunState.code : RunState → Nat
  | .idle => 0
  | .starting => 1
  | .running => 2
  | .trailer => 3

/-! ## Machinery line (section 11.4) -/

/-- An engine report: measured rpm, confirmed gear byte, flags. -/
structure EngineReport where
  rpm : Nat
  gear : Nat
  flags : ReportFlags
  deriving DecidableEq, Repr

def engineReportOf (b : Bytes) : EngineReport where
  rpm := u16 b 0
  gear := byteAt b 2
  flags := { running := bitOf (byteAt b 3) 0, alarm := bitOf (byteAt b 3) 1, local_ := bitOf (byteAt b 3) 2 }

/-- One entry of a meter report: supply count, return count, temperature code. -/
structure MeterEntry where
  supply : Nat
  ret : Nat
  temp : Nat
  deriving DecidableEq, Repr

/-- Entry `pos` (from 1) of a meter report, if the report has so many. -/
def meterEntryOf (b : Bytes) (pos : Nat) : Option MeterEntry :=
  if 1 ≤ pos ∧ pos ≤ byteAt b 0 then
    some { supply := u16 b (6 * pos - 5), ret := u16 b (6 * pos - 3), temp := u16 b (6 * pos - 1) }
  else none

/-- Entry `pos` (from 1) of a gauge report, if the report has so many. -/
def gaugeEntryOf (b : Bytes) (pos : Nat) : Option Nat :=
  if 1 ≤ pos ∧ pos ≤ byteAt b 0 then some (u24 b (3 * pos - 2)) else none

/-- A pump report. -/
structure PumpReport where
  running : Bool
  fault : Bool
  count : Nat
  temp : Nat
  deriving DecidableEq, Repr

def pumpReportOf (b : Bytes) : PumpReport where
  running := bitOf (byteAt b 0) 0
  fault := bitOf (byteAt b 0) 1
  count := u16 b 1
  temp := u16 b 3

/-- The report kinds of the machinery line (section 11.4). -/
def isReportKind (kind : Nat) : Bool := 0x18 ≤ kind && kind ≤ 0x1C

/-- The report kind a content code expects (R74): ENGINE 0–3, ACTUATOR 4–9, METER 10, GAUGE 11, PUMP 12. -/
def reportKindOf (content : Nat) : Nat :=
  if content ≤ 3 then 0x18
  else if content ≤ 9 then 0x19
  else if content = 10 then 0x1A
  else if content = 11 then 0x1B
  else 0x1C

/-- Whether a meter or gauge report's length agrees with the entry count it carries (section 11.4); the other
reports carry none. -/
def entriesAgree (kind : Nat) (b : Bytes) : Bool :=
  match kind with
  | 0x1A => b.length == 1 + 6 * byteAt b 0
  | 0x1B => b.length == 1 + 3 * byteAt b 0
  | _ => true

/-- The bytes of the fields section 11.4 gives a report of a content code; a meter or gauge report's own count
gives its length. -/
def reportFields (content : Nat) : Nat :=
  if content ≤ 3 then 4
  else if content ≤ 9 then 2
  else if content = 12 then 5
  else 0

/-! ## Tow line (section 11.5) -/

/-- The tension count a POLL REPLY states. -/
def replyTensions (b : Bytes) : Nat := byteAt b 2 % 8

/-- Whether a POLL REPLY states a bow field. -/
def replyHasBow (b : Bytes) : Bool := bitOf (byteAt b 2) 7

/-- Whether a POLL REPLY agrees with an entry of `channels` coupling channels and bow flag `bow` (R87), its
length being the one its own fields give. -/
def replyFits (b : Bytes) (channels : Nat) (bow : Bool) : Bool :=
  replyTensions b == channels && replyHasBow b == bow
    && b.length == 3 + channels + (if bow then 2 else 0)

/-- The contents of a POLL REPLY. -/
def towReplyOf (b : Bytes) : TowReply where
  codes := (b.drop 3).take (replyTensions b)
  condition := byteAt b 0
  inBits := b.getD 1 0
  bow := if replyHasBow b then some (s16 b (3 + replyTensions b)) else none

/-- A decoded tension code: a tension in 0.1 kN, or the sensor-fault marker (R92). -/
inductive Reading where
  | tension (t : Nat)
  | sensorFault
  deriving DecidableEq, Repr

/-- The decoding of R92. -/
def decodeTension (code : Nat) : Reading :=
  if code = 0 then .tension 0
  else if code = 0xFF then .sensorFault
  else
    let e := code / 32
    let m := code % 32
    if e = 0 then .tension (2 * m + 1) else .tension ((64 + 2 * m + 1) * 2 ^ (e - 1))

end Sys2Proof.Machine
end

