-- ==== Sys2Proof/Machine/Tables.lean ====
section
/-! DEFINITION. The thirteen tables as the blocks read them: the fields of each image in the layout of section
11.6, and the table in use of each id, which is present only while its slot is VALID (R176). -/

namespace Sys2Proof.Machine

/-- Index 0–3 of a number 1–4; a number outside that range wraps (no checked table holds one). -/
def ix4 (n : Nat) : Fin 4 := Fin.ofNat 4 (n - 1)

/-- Index 0–3 of a station address, channel or engine number 1–4, and none for any other number. -/
def ix4? (n : Nat) : Option (Fin 4) := if 1 ≤ n ∧ n ≤ 4 then some (Fin.ofNat 4 (n - 1)) else none

/-- Index 0–11 of a tank index 1–12. -/
def ix12? (n : Nat) : Option (Fin 12) := if 1 ≤ n ∧ n ≤ 12 then some (Fin.ofNat 12 (n - 1)) else none

/-- Index 0–29 of a machinery node address 0x01–0x1E. -/
def ix30? (n : Nat) : Option (Fin 30) := if 1 ≤ n ∧ n ≤ 30 then some (Fin.ofNat 30 (n - 1)) else none

/-! ## The slots -/

/-- The slot of table id `id`, 1 to 13. -/
def State.slot (s : State) (id : Fin 13) : TableSlot := s.store.slots[id.val]

/-- The image in use of a VALID table. -/
def State.tableImage (s : State) (id : Fin 13) : Option Bytes :=
  if (s.slot id).valid then some (s.slot id).image else none

/-! ## Table 1, station -/

/-- Rights groups (section 10.1). -/
inductive Rights where
  | nav
  | prop
  | fuel
  | sys
  deriving DecidableEq, Repr

/-- The bit of a rights group in the station table. -/
def Rights.bit : Rights → Nat
  | .nav => 0
  | .prop => 1
  | .fuel => 2
  | .sys => 3

structure StationEntry where
  address : Nat
  cls : Nat
  rights : Nat
  deriving DecidableEq, Repr

def parseStations (b : Bytes) : List StationEntry :=
  (List.range (byteAt b 0)).map fun i =>
    { address := byteAt b (1 + 3 * i), cls := byteAt b (2 + 3 * i), rights := byteAt b (3 + 3 * i) }

def State.stationTable (s : State) : Option (List StationEntry) := (s.tableImage 0).map parseStations

/-! ## Table 2, engine -/

structure EngineEntry where
  present : Bool
  starboard : Bool
  channel : Nat
  idle : Nat
  maxAhead : Nat
  maxAstern : Nat
  rampUp : Nat
  rampDown : Nat
  dwell : Nat
  node : Nat
  feedTank : Nat
  deriving DecidableEq, Repr

def parseEngineEntry (b : Bytes) (o : Nat) : EngineEntry where
  present := bitOf (byteAt b o) 0
  starboard := bitOf (byteAt b o) 1
  channel := byteAt b (o + 1)
  idle := u16 b (o + 2)
  maxAhead := u16 b (o + 4)
  maxAstern := u16 b (o + 6)
  rampUp := u16 b (o + 8)
  rampDown := u16 b (o + 10)
  dwell := byteAt b (o + 12)
  node := byteAt b (o + 13)
  feedTank := byteAt b (o + 14)

/-- Engine n's entry of an engine table image. -/
def engineEntryOf (b : Bytes) (n : Fin 4) : EngineEntry := parseEngineEntry b (1 + 15 * n.val)

/-- The sync gain K of an engine table image. -/
def syncGainOf (b : Bytes) : Nat := byteAt b 0

/-- Engine n's entry while it is present (R23; while the table is INVALID every engine counts as not
present). -/
def State.engine? (s : State) (n : Fin 4) : Option EngineEntry :=
  match s.tableImage 1 with
  | none => none
  | some b => if (engineEntryOf b n).present then some (engineEntryOf b n) else none

/-- The sync gain in use. -/
def State.syncGain (s : State) : Nat :=
  match s.tableImage 1 with
  | none => 0
  | some b => syncGainOf b

/-- The present engines bound to a channel: the channel's sync group (section 2.5). -/
def State.group (s : State) (c : Fin 4) : List (Fin 4) :=
  (Bank.indices 4).filter fun n =>
    match s.engine? n with
    | none => false
    | some e => ix4 e.channel = c

/-! ## Table 3, lever curves -/

structure ChannelCurves where
  dead : Nat
  aheadCount : Nat
  ahead : List (Nat × Nat)
  asternCount : Nat
  astern : List (Nat × Nat)
  deriving DecidableEq, Repr

/-- The first `count` of the eight breakpoints at `o`; those beyond the count are ignored. -/
def parseBreakpoints (b : Bytes) (o count : Nat) : List (Nat × Nat) :=
  (List.range (min count 8)).map fun i => (u16 b (o + 4 * i), u16 b (o + 4 * i + 2))

def channelCurvesOf (b : Bytes) (c : Fin 4) : ChannelCurves :=
  let o := 67 * c.val
  { dead := byteAt b o
    aheadCount := byteAt b (o + 1)
    ahead := parseBreakpoints b (o + 2) (byteAt b (o + 1))
    asternCount := byteAt b (o + 34)
    astern := parseBreakpoints b (o + 35) (byteAt b (o + 34)) }

def State.curves? (s : State) (c : Fin 4) : Option ChannelCurves :=
  (s.tableImage 2).map fun b => channelCurvesOf b c

/-- The dead band of a channel, 0 while the table is INVALID (R9, R26). -/
def State.deadBand (s : State) (c : Fin 4) : Nat :=
  match s.curves? c with
  | none => 0
  | some k => k.dead

/-! ## Table 4, steering -/

structure SteerEntry where
  present : Bool
  flankSource : Bool
  freeze : Bool
  kind : Nat
  gain : Int
  limit : Nat
  rate : Nat
  tolerance : Nat
  followTime : Nat
  node : Nat
  interlock : Nat
  deriving DecidableEq, Repr

def steerEntryOf (b : Bytes) (i : Fin 7) : SteerEntry :=
  let o := 12 * i.val
  { present := bitOf (byteAt b o) 0
    flankSource := bitOf (byteAt b o) 1
    freeze := bitOf (byteAt b o) 2
    kind := byteAt b (o + 1)
    gain := s16 b (o + 2)
    limit := u16 b (o + 4)
    rate := u16 b (o + 6)
    tolerance := byteAt b (o + 8)
    followTime := byteAt b (o + 9)
    node := byteAt b (o + 10)
    interlock := byteAt b (o + 11) }

/-- The entry of actuator position i + 1 while it is present (R50). -/
def State.actuator? (s : State) (i : Fin 7) : Option SteerEntry :=
  match s.tableImage 3 with
  | none => none
  | some b => if (steerEntryOf b i).present then some (steerEntryOf b i) else none

/-- The position of BOW. -/
def bowIx : Fin 7 := 6

/-- FR1 to FR4 are the FLANKING positions (section 3.1). -/
def isFlanking (i : Fin 7) : Bool := 2 ≤ i.val && i.val ≤ 5

/-! ## Table 5, slot -/

structure SlotEntry where
  active : Bool
  kind : Nat
  node : Nat
  content : Nat
  window : Nat
  divider : Nat
  phase : Nat
  deriving DecidableEq, Repr

def slotEntryOf (b : Bytes) (i : Nat) : SlotEntry :=
  let o := 2 + 6 * i
  { active := bitOf (byteAt b o) 0
    kind := byteAt b o / 2 % 4
    node := byteAt b (o + 1)
    content := byteAt b (o + 2)
    window := byteAt b (o + 3)
    divider := byteAt b (o + 4)
    phase := byteAt b (o + 5) }

/-- The period P of a slot table image, ms. -/
def slotPeriodOf (b : Bytes) : Nat := byteAt b 0

/-- The entry count of a slot table image. -/
def slotCountOf (b : Bytes) : Nat := byteAt b 1

/-- The slot entries of an image, in list order. -/
def slotEntriesOf (b : Bytes) : List SlotEntry := (List.range (slotCountOf b)).map (slotEntryOf b)

/-- The active slots of an image. -/
def activeSlotsOf (b : Bytes) : List SlotEntry := (slotEntriesOf b).filter (·.active)

/-- A slot kind's code in the flags byte (section 11.6). -/
def slotKindOf (k : Nat) : SlotKind := if k = 1 then .exchange else if k = 2 then .call else .command

/-- The content that a table's active slots give a node address: the node's content kind (R69). -/
def contentOf (b : Bytes) (address : Nat) : Option Nat :=
  ((activeSlotsOf b).find? (fun e => e.node = address)).map (·.content)

/-- The content kind the slot table in use gives an address (none when no active slot names it). -/
def State.contentKind (s : State) (address : Nat) : Option Nat :=
  match s.tableImage 4 with
  | none => none
  | some b => contentOf b address

/-- The pump node (R69): the node of the active PUMP slots. -/
def State.pumpNode (s : State) : Option Nat :=
  match s.tableImage 4 with
  | none => none
  | some b => ((activeSlotsOf b).find? (fun e => e.content = 12)).map (·.node)

/-! ## Table 6, make-up -/

structure MakeUpEntry where
  address : Nat
  row : Nat
  column : Nat
  channels : Nat
  bow : Bool
  cutB : Bool
  profile : Nat
  deriving DecidableEq, Repr

def makeUpEntryOf (b : Bytes) (i : Nat) : MakeUpEntry :=
  let o := 1 + 5 * i
  { address := byteAt b o
    row := byteAt b (o + 1)
    column := byteAt b (o + 2)
    channels := byteAt b (o + 3) % 8
    bow := bitOf (byteAt b (o + 3)) 3
    cutB := bitOf (byteAt b (o + 3)) 4
    profile := byteAt b (o + 4) }

def makeUpOf (b : Bytes) : List MakeUpEntry := (List.range (byteAt b 0)).map (makeUpEntryOf b)

/-- The make-up table in use: the poll list (R83). -/
def State.makeUp? (s : State) : Option (List MakeUpEntry) := (s.tableImage 5).map makeUpOf

/-- The poll list, empty while the make-up table is INVALID (R83). -/
def State.pollList (s : State) : List MakeUpEntry := (s.makeUp?).getD []

/-! ## Table 7, coupling -/

structure CouplingEntry where
  nodeIndex : Nat
  channel : Nat
  kind : Nat
  split : Bool
  rated : Nat
  slack : Nat
  deriving DecidableEq, Repr

def couplingEntryOf (b : Bytes) (i : Nat) : CouplingEntry :=
  let o := 1 + 6 * i
  { nodeIndex := byteAt b o
    channel := byteAt b (o + 1) % 4
    kind := byteAt b (o + 1) / 4 % 4
    split := bitOf (byteAt b (o + 1)) 4
    rated := u16 b (o + 2)
    slack := u16 b (o + 4) }

def couplingsOf (b : Bytes) : List CouplingEntry := (List.range (byteAt b 0)).map (couplingEntryOf b)

def State.couplingTable? (s : State) : Option (List CouplingEntry) := (s.tableImage 6).map couplingsOf

/-- The coupling entries in use, none while the table is INVALID (R101). -/
def State.couplingEntries (s : State) : List CouplingEntry := (s.couplingTable?).getD []

/-! ## Table 8, tow limits -/

structure TowLimits where
  k : Nat
  u : Nat
  f : Nat
  recovery : Nat
  splitCap : Nat
  blind : Nat
  rejoin : Nat
  deriving DecidableEq, Repr

def parseTowLimits (b : Bytes) : TowLimits where
  k := u16 b 0
  u := u16 b 2
  f := u16 b 4
  recovery := u16 b 6
  splitCap := u16 b 8
  blind := byteAt b 10
  rejoin := u16 b 11

/-- The defaults of R104. -/
def defaultTowLimits : TowLimits :=
  { k := 700, u := 950, f := 200, recovery := 50, splitCap := 400, blind := 4, rejoin := 600 }

def State.towLimits (s : State) : TowLimits :=
  match s.tableImage 7 with
  | none => defaultTowLimits
  | some b => parseTowLimits b

/-! ## Table 9, tank and consumer -/

structure ConsumerEntry where
  present : Nat
  node : Nat
  entry : Nat
  k : Nat
  alpha : Nat
  glitch : Nat
  feedTank : Nat
  deriving DecidableEq, Repr

def consumerEntryOf (b : Bytes) (i : Fin 6) : ConsumerEntry :=
  let o := 9 * i.val
  { present := byteAt b o
    node := byteAt b (o + 1)
    entry := byteAt b (o + 2)
    k := u16 b (o + 3)
    alpha := byteAt b (o + 5)
    glitch := u16 b (o + 6)
    feedTank := byteAt b (o + 8) }

structure TankEntry where
  present : Bool
  role : Nat
  capacity : Nat
  gaugeNode : Nat
  gaugeEntry : Nat
  high : Nat
  low : Nat
  lowLow : Nat
  tolerance : Nat
  deriving DecidableEq, Repr

def tankEntryOf (b : Bytes) (i : Fin 12) : TankEntry :=
  let o := 54 + 18 * i.val
  { present := bitOf (byteAt b o) 0
    role := byteAt b o / 2 % 4
    capacity := u24 b (o + 1)
    gaugeNode := byteAt b (o + 4)
    gaugeEntry := byteAt b (o + 5)
    high := u24 b (o + 6)
    low := u24 b (o + 9)
    lowLow := u24 b (o + 12)
    tolerance := u24 b (o + 15) }

/-- The role code of DAY (section 11.6). -/
def roleDay : Nat := 1

/-- The empty mark of R128. -/
def TankEntry.emptyMark (t : TankEntry) : Nat := t.capacity * 5 / 1000

/-- The hysteresis band of R128. -/
def TankEntry.band (t : TankEntry) : Nat := t.capacity * 20 / 1000

/-- The entry of consumer position i + 1 in an image, while it is present. -/
def presentConsumer (b : Bytes) (i : Fin 6) : Option ConsumerEntry :=
  if (consumerEntryOf b i).present = 1 then some (consumerEntryOf b i) else none

/-- The entry of tank index i + 1 in an image, while it is present. -/
def presentTank (b : Bytes) (i : Fin 12) : Option TankEntry :=
  if (tankEntryOf b i).present then some (tankEntryOf b i) else none

def State.consumer? (s : State) (i : Fin 6) : Option ConsumerEntry :=
  (s.tableImage 8).bind fun b => presentConsumer b i

def State.tank? (s : State) (i : Fin 12) : Option TankEntry :=
  (s.tableImage 8).bind fun b => presentTank b i

/-- The present tank of a tank index. -/
def State.tankAt? (s : State) (index : Nat) : Option (Fin 12 × TankEntry) :=
  match ix12? index with
  | none => none
  | some i => (s.tank? i).map fun t => (i, t)

/-! ## Table 10, transfer -/

structure RefillRule where
  enabled : Nat
  dayTank : Nat
  source : Nat
  deriving DecidableEq, Repr

def pairCountOf (b : Bytes) : Nat := byteAt b 0

def pairsOf (b : Bytes) : List (Nat × Nat) :=
  (List.range (pairCountOf b)).map fun i => (byteAt b (1 + 2 * i), byteAt b (2 + 2 * i))

def refillRuleOf (b : Bytes) (r : Fin 4) : RefillRule :=
  let o := 1 + 2 * pairCountOf b + 3 * r.val
  { enabled := byteAt b o, dayTank := byteAt b (o + 1), source := byteAt b (o + 2) }

structure PumpConstants where
  k : Nat
  alpha : Nat
  glitch : Nat
  deriving DecidableEq, Repr

def pumpConstantsOf (b : Bytes) : PumpConstants :=
  let o := 13 + 2 * pairCountOf b
  { k := u16 b o, alpha := byteAt b (o + 2), glitch := u16 b (o + 3) }

/-- The permission pairs in use, none while table 10 is INVALID (R148). -/
def State.permissionPairs (s : State) : List (Nat × Nat) :=
  match s.tableImage 9 with
  | none => []
  | some b => pairsOf b

/-- Rule r + 1 while it is enabled (R148). -/
def State.refillRule? (s : State) (r : Fin 4) : Option RefillRule :=
  match s.tableImage 9 with
  | none => none
  | some b => if (refillRuleOf b r).enabled = 1 then some (refillRuleOf b r) else none

def State.pumpConstants? (s : State) : Option PumpConstants := (s.tableImage 9).map pumpConstantsOf

/-! ## Table 11, reaction -/

structure Reaction where
  cls : Nat
  hold : Bool
  lineA : Bool
  lineB : Bool
  notify : Bool
  cap : Nat
  mask : Nat
  deriving DecidableEq, Repr

/-- The reaction of every code while the table is INVALID (R167). -/
def defaultReaction : Reaction :=
  { cls := 1, hold := false, lineA := true, lineB := false, notify := true, cap := 1000, mask := 0 }

def reactionOf (b : Bytes) (i : Fin 45) : Reaction :=
  let o := 6 * i.val
  { cls := byteAt b (o + 1)
    hold := bitOf (byteAt b (o + 2)) 0
    lineA := bitOf (byteAt b (o + 2)) 1
    lineB := bitOf (byteAt b (o + 2)) 2
    notify := bitOf (byteAt b (o + 2)) 3
    cap := u16 b (o + 3)
    mask := byteAt b (o + 5) }

/-- The reaction of code i + 1 (R166, R167). -/
def State.reaction (s : State) (i : Fin 45) : Reaction :=
  match s.tableImage 10 with
  | none => defaultReaction
  | some b => reactionOf b i

/-! ## Table 12, condition mask and bit profiles -/

/-- Whether a node condition code is masked (R89): code c at byte c / 8, bit c mod 8. -/
def maskedBy (b : Bytes) (code : Nat) : Bool := bitOf (byteAt b (code / 8)) (code % 8)

/-- The out-bit binding byte of a profile 1–8 and bit 0–7. -/
def outBinding (b : Bytes) (profile bit : Nat) : Nat := byteAt b (32 + 16 * (profile - 1) + bit)

/-- The in-bit binding byte of a profile 1–8 and bit 0–7. -/
def inBinding (b : Bytes) (profile bit : Nat) : Nat := byteAt b (40 + 16 * (profile - 1) + bit)

/-- Whether a code is masked under the mask in use; no code is while table 12 is INVALID, and code 0 never
is (R89, R93). -/
def State.masked (s : State) (code : Nat) : Bool :=
  match s.tableImage 11 with
  | none => false
  | some b => code != 0 && maskedBy b code

/-! ## Table 13, general -/

/-- The poll interval in use, ms: 250 while the general table is INVALID (R85). It is the one of the general table in
use (R184), at once after a load of it: for READ STATE (R99) and the first bow computation (R54), before the next
cycle start has been computed with it (R85), that is a DESIGN CHOICE (notes/assumptions/22.md). -/
def State.pollInterval (s : State) : Nat :=
  match s.tableImage 12 with
  | none => 250
  | some b => u16 b 0

/-- The feed derate in use: 500 while the general table is INVALID (R142). -/
def State.feedDerate (s : State) : Nat :=
  match s.tableImage 12 with
  | none => 500
  | some b => u16 b 2

/-- Alarm line modes (R171). -/
inductive LineMode where
  | disabled
  | openDrain
  | pushPull
  deriving DecidableEq, Repr

def lineModeOf (n : Nat) : LineMode := if n = 0 then .disabled else if n = 1 then .openDrain else .pushPull

/-- The mode of alarm line A (byte 4) or B (byte 5): OPEN-DRAIN while the general table is INVALID. -/
def State.lineMode (s : State) (lineB : Bool) : LineMode :=
  match s.tableImage 12 with
  | none => .openDrain
  | some b => lineModeOf (byteAt b (if lineB then 5 else 4))

end Sys2Proof.Machine
end

