-- ==== Sys2Proof/Machine/Ops.lean ====
section
/-! DEFINITION. The operations every block uses: taking a step's circumstances, the clock and its timers,
changing one record, sending a frame, and writing the retained store. -/

namespace Sys2Proof.Machine

/-! ## The clock -/

/-- The clock is at `t` or later. The clock never goes back. -/
def State.reach (s : State) (t : Moment) : State := s.withNow (max s.now t)

/-- A step is taken: the clock is at the step's moment, and the retained store stands as the step says. -/
def State.enter (s : State) (e : Env) : State := (s.reach e.time).withReadBack e.readBack

/-- Time passes while nothing is commanded: one clock unit. -/
def State.tick (s : State) : State := s.withNow (s.now + 1)

/-- Milliseconds since a moment, staying at 65 535 (section 11.3). -/
def State.ageMs (s : State) (t : Moment) : Nat := min 65535 ((s.now - t) / 100)

/-- Milliseconds left to a deadline, staying at 65 535 (section 11.3). -/
def State.leftMs (s : State) (t : Moment) : Nat := min 65535 ((t - s.now) / 100)

/-- A moment as the milliseconds since the end of the last cold start, modulo 2^32 (section 11.3). -/
def State.momentMs (s : State) (t : Moment) : Nat := (t - s.epoch) / 100 % 4294967296

/-! ## One record of a bank -/

def State.modStation (s : State) (n : Fin 4) (f : Station → Station) : State :=
  s.withStation { s.station with stations := Bank.upd s.station.stations n f }

def State.modEngine (s : State) (n : Fin 4) (f : Engine → Engine) : State :=
  s.withProp { s.prop with engines := Bank.upd s.prop.engines n f }

def State.modActuator (s : State) (i : Fin 7) (f : Actuator → Actuator) : State :=
  s.withSteer { s.steer with actuators := Bank.upd s.steer.actuators i f }

def State.modMachNode (s : State) (i : Fin 30) (f : MachNode → MachNode) : State :=
  s.withMach { s.mach with nodes := Bank.upd s.mach.nodes i f }

def State.modTowNode (s : State) (i : Nat) (f : TowNode → TowNode) : State :=
  s.withTowLine { s.towLine with nodes := s.towLine.nodes.modify i f }

def State.modCoupling (s : State) (i : Nat) (f : Coupling → Coupling) : State :=
  s.withCoup { s.coup with records := s.coup.records.modify i f }

def State.modConsumer (s : State) (i : Fin 6) (f : Consumer → Consumer) : State :=
  s.withFuel { s.fuel with consumers := Bank.upd s.fuel.consumers i f }

def State.modTank (s : State) (i : Fin 12) (f : Tank → Tank) : State :=
  s.withFuel { s.fuel with tanks := Bank.upd s.fuel.tanks i f }

def State.modRule (s : State) (r : Fin 4) (f : RuleState → RuleState) : State :=
  s.withTransfer { s.transfer with rules := Bank.upd s.transfer.rules r f }

def State.modSlot (s : State) (id : Fin 13) (f : TableSlot → TableSlot) : State :=
  s.withStore { s.store with slots := Bank.upd s.store.slots id f }

/-- Station n's record. -/
def State.stationAt (s : State) (n : Fin 4) : Station := s.station.stations[n.val]

/-- Engine n's record. -/
def State.engineAt (s : State) (n : Fin 4) : Engine := s.prop.engines[n.val]

/-- The record of actuator position i + 1. -/
def State.actuatorAt (s : State) (i : Fin 7) : Actuator := s.steer.actuators[i.val]

/-- The record of machinery node address i + 1. -/
def State.machNodeAt (s : State) (i : Fin 30) : MachNode := s.mach.nodes[i.val]

/-- The scheduler's node state of an address. -/
def State.machStateOf (s : State) (address : Nat) : MachNodeState :=
  match ix30? address with
  | none => .unknown
  | some i => (s.machNodeAt i).state

/-- The record of consumer position i + 1. -/
def State.consumerAt (s : State) (i : Fin 6) : Consumer := s.fuel.consumers[i.val]

/-- The record of tank index i + 1. -/
def State.tankRec (s : State) (i : Fin 12) : Tank := s.fuel.tanks[i.val]

/-! ## Addresses -/

/-- The part's station-line address: 0x70 plus the value of ADDR1:0 (R189). -/
def State.ownAddress (s : State) : Nat := 0x70 + s.straps.addr % 4

/-- Index of a fitted station's address; none for an address outside 0x01–0x04 or not fitted. -/
def State.fittedStation (s : State) (src : Nat) : Option (Fin 4) :=
  match ix4? src with
  | none => none
  | some n => if (s.stationAt n).fitted then some n else none

/-! ## Line counters (R194) -/

/-- A line counter grows by one, staying at 65 535. -/
def bump (n : Nat) : Nat := satSucc 65535 n

def State.countStationDiscarded (s : State) : State :=
  s.withLines { s.lines with station := { s.lines.station with discarded := bump s.lines.station.discarded } }

def State.countStationGood (s : State) : State :=
  s.withLines { s.lines with stationGood := bump s.lines.stationGood }

def State.countMachineryDiscarded (s : State) : State :=
  s.withLines
    { s.lines with machinery := { s.lines.machinery with discarded := bump s.lines.machinery.discarded } }

def State.countMachineryWrongSource (s : State) : State :=
  s.withLines { s.lines with machWrongSource := bump s.lines.machWrongSource }

def State.countMachineryStray (s : State) : State :=
  s.withLines { s.lines with machStray := bump s.lines.machStray }

def State.countMachineryLate (s : State) : State :=
  s.withLines { s.lines with machLate := bump s.lines.machLate }

def State.countTowDiscarded (s : State) : State :=
  s.withLines { s.lines with tow := { s.lines.tow with discarded := bump s.lines.tow.discarded } }

def State.countTowWrongSource (s : State) : State :=
  s.withLines { s.lines with towWrongSource := bump s.lines.towWrongSource }

def State.countTowMalformed (s : State) : State :=
  s.withLines { s.lines with towMalformed := bump s.lines.towMalformed }

def State.countTowStray (s : State) : State :=
  s.withLines { s.lines with towStray := bump s.lines.towStray }

def State.countTowLate (s : State) : State :=
  s.withLines { s.lines with towLate := bump s.lines.towLate }

/-! ## Sending -/

/-- A frame leaves on the machinery line with source 0xFE (R73). -/
def State.sendMachinery (s : State) (dst kind : Nat) (payload : Bytes) : State :=
  s.withSent { s.sent with
    machinery := { dst := dst, src := Config.fieldAddress, kind := kind, payload := payload }
      :: s.sent.machinery }

/-- A frame leaves on the tow line with source 0xFE (R86, R97). -/
def State.sendTow (s : State) (dst kind : Nat) (payload : Bytes) : State :=
  s.withSent { s.sent with
    tow := { dst := dst, src := Config.fieldAddress, kind := kind, payload := payload } :: s.sent.tow }

/-- A frame begins to leave on the station line (R193); `second` marks its second attempt. -/
def State.sendStation (s : State) (f : Frame) (second : Bool) : State :=
  (s.withSent { s.sent with station := f :: s.sent.station }).withTx
    { s.tx with last := some { frame := f, second := second } }

/-- Whether a node's frame answers a frame of the part other than the newest that has left on its line, so
that the window or the transaction it was meant for has ended (R75, R81, R84, R87, R97, R100); `sent` holds the
frames the part has sent on that line, newest first. -/
def answersEarlier (sent : List Frame) (answers : Option Nat) : Bool :=
  answers.any fun k => k < sent.length

/-! ## The retained store -/

/-- Words corrected by the ECC at a read (R186), counted with saturation. -/
def State.countCorrected (s : State) (n : Nat) : State :=
  s.withStore { s.store with corrected := min 65535 (s.store.corrected + n) }

/-- Words of a region that the read-back of a write of it finds with one bit in error (R186, R187). -/
def correctedWords (rb : ReadBack) (r : Region) : Nat := rb.corrected.count r

/-- A write of a region is verified by reading it back, and that read counts the words it corrects (R186). -/
def State.readBackRegion (s : State) (r : Region) : State := s.countCorrected (correctedWords s.readBack r)

/-- A write of an item to the retained store (R187), verified by reading it back: it takes `f`'s effect, or, where
the region's words read back different twice, it counts one write failure, the last whole copy stays, and the item
is owed. That an item none of whose writes has succeeded stays one that has never been written is a DESIGN CHOICE
(notes/assumptions/13.md). -/
def State.writeRetained (s : State) (i : StoreItem) (f : Retained → Retained) : State :=
  let s := s.readBackRegion i.region
  if i.region ∈ s.readBack.failed then
    s.withStore { s.store with
      writeFailures := bump s.store.writeFailures
      owed := i :: s.store.owed.filter (· ≠ i) }
  else
    s.withStore { s.store with
      retained := f s.store.retained
      owed := s.store.owed.filter (· ≠ i) }

/-- The accounts and books as an account save writes them (R144). -/
def State.fuelRegion (s : State) : FuelRegion where
  accounts := s.fuel.consumers.map (·.account)
  books := s.fuel.tanks.map (·.book)

/-- The item of a state as it stands now, put into the retained store. -/
def State.storeItem (s : State) (i : StoreItem) (r : Retained) : Retained :=
  match i with
  | .fuel => { r with fuel := some s.fuelRegion }
  | .history => { r with history := some s.transfer.history }
  | .counter => { r with counter := some s.transfer.counter }
  | .splitMode => { r with splitMode := some s.coup.mode }

/-- A table write to the retained store (R183 step 4, R187), verified by reading it back; a failed one counts one
write failure and leaves a damaged copy behind. -/
def State.writeTable (s : State) (id : Fin 13) (image : Bytes) (crc : Nat) : State :=
  let s := s.readBackRegion (.table (id.val + 1))
  if Region.table (id.val + 1) ∈ s.readBack.failed then
    s.withStore { s.store with
      writeFailures := bump s.store.writeFailures
      retained := { s.store.retained with
        tables := s.store.retained.tables.set id.val
          (some { image := image, crc := crc, damaged := true }) id.isLt } }
  else
    s.withStore { s.store with
      retained := { s.store.retained with
        tables := s.store.retained.tables.set id.val
          (some { image := image, crc := crc, damaged := false }) id.isLt } }

/-- Whether a table write at this step is verified (R187). -/
def State.tableWriteVerified (s : State) (id : Fin 13) : Bool :=
  !decide (Region.table (id.val + 1) ∈ s.readBack.failed)

/-! ## Free choices -/

/-- The bytes of a report with a free value for each byte of `fields` that it does not carry (R74, R79), and
the state after those choices are made. -/
def State.wholeReport (s : State) (fields : Nat) (b : Bytes) : Bytes × State :=
  if fields ≤ b.length then (b, s)
  else
    (b ++ (List.range (fields - b.length)).map fun i => Config.missingByte s.draws (b.length + i),
      s.withDraws (s.draws + 1))

/-- The next free choice between a follow-up frame and a reply (R193), and the state after it is made. -/
def State.gapChoice (s : State) : Bool × State :=
  (Config.gapSendsFollowUpFirst s.draws, s.withDraws (s.draws + 1))

end Sys2Proof.Machine
end

