-- ==== Sys2Proof/Machine/Flags.lean ====
section
/-! DEFINITION. The condition unit (chapter 9): source flags, alarm states, priority, acknowledgement,
reaction ceilings, alarm lines and pins, and the summary. -/

namespace Sys2Proof.Machine

/-- Index of a condition code 1–45. -/
def condIx (code : Nat) : Option (Fin 45) := if 1 ≤ code ∧ code ≤ 45 then some (Fin.ofNat 45 (code - 1)) else none

/-- The alarm state's move when the source becomes active or clears (R164). The dashes of R164's table,
which cannot occur, leave it as it is. -/
def AlarmState.onSource (active : Bool) (a : AlarmState) : AlarmState :=
  match active, a with
  | true, .normal => .activeUnacked
  | true, .clearedUnacked => .activeUnacked
  | true, .activeUnacked => .activeUnacked
  | true, .activeAcked => .activeAcked
  | false, .activeUnacked => .clearedUnacked
  | false, .activeAcked => .normal
  | false, .normal => .normal
  | false, .clearedUnacked => .clearedUnacked

/-- The alarm state's move at an acknowledgement (R164). -/
def AlarmState.onAck (a : AlarmState) : AlarmState :=
  match a with
  | .activeUnacked => .activeAcked
  | .clearedUnacked => .normal
  | .activeAcked => .activeAcked
  | .normal => .normal

/-- Whether a code is unacknowledged (R164). -/
def AlarmState.unacked (a : AlarmState) : Bool :=
  match a with
  | .activeUnacked => true
  | .clearedUnacked => true
  | _ => false

/-- Position of an alarm state in R164. -/
def AlarmState.code : AlarmState → Nat
  | .normal => 0
  | .activeUnacked => 1
  | .activeAcked => 2
  | .clearedUnacked => 3

/-- An owner hands over its source of the condition at index `i`; handing what the flag already shows
changes nothing (R163). -/
def CondUnit.hand (c : CondUnit) (i : Fin 45) (active : Bool) : CondUnit :=
  if c.source[i.val] = active then c
  else
    { source := c.source.set i.val active i.isLt
      alarm := Bank.upd c.alarm i (AlarmState.onSource active) }

/-- An owner hands over its source of condition `code` (R163). -/
def State.setSource (s : State) (code : Nat) (active : Bool) : State :=
  match condIx code with
  | none => s
  | some i => s.withCond (s.cond.hand i active)

/-- The source flag of a condition code. -/
def State.sourceOf (s : State) (code : Nat) : Bool :=
  match condIx code with
  | none => false
  | some i => s.cond.source[i.val]

/-! ## Priority (R165) -/

/-- The first code in priority order among those `p` accepts: lower class first, then lower code. -/
def State.firstByPriority (s : State) (p : Fin 45 → Bool) : Option (Fin 45) :=
  (Bank.indices 45).foldl (fun best i =>
    if p i then
      match best with
      | none => some i
      | some b => if (s.reaction i).cls < (s.reaction b).cls then some i else best
    else best) none

/-- The highest-priority unacknowledged code (R165). -/
def State.highestUnacked (s : State) : Option (Fin 45) :=
  s.firstByPriority fun i => s.cond.alarm[i.val].unacked

/-- How many codes are unacknowledged. -/
def State.unackedCount (s : State) : Nat :=
  ((Bank.indices 45).filter fun i => s.cond.alarm[i.val].unacked).length

/-- The acknowledgement of one code (R164). -/
def State.acknowledge (s : State) (i : Fin 45) : State :=
  s.withCond { s.cond with alarm := Bank.upd s.cond.alarm i AlarmState.onAck }

/-- An ACK: the highest-priority unacknowledged code is acknowledged, if there is one (R172). -/
def State.ackHighest (s : State) : State :=
  match s.highestUnacked with
  | none => s
  | some i => s.acknowledge i

/-! ## What the condition unit publishes (R168, R170, R171, R174) -/

/-- Whether the code at index `i` contributes its cap: it is active, or held and unacknowledged (R168). -/
def State.contributes (s : State) (i : Fin 45) : Bool :=
  match s.cond.alarm[i.val] with
  | .activeUnacked => true
  | .activeAcked => true
  | .clearedUnacked => (s.reaction i).hold
  | .normal => false

/-- The reaction ceiling of engine n: the least cap among the contributing codes that name it, 1000 when
none does (R168). -/
def State.cReact (s : State) (n : Fin 4) : Nat :=
  ((Bank.indices 45).filter fun i => s.contributes i && bitOf (s.reaction i).mask n.val).foldl
    (fun m i => min m (s.reaction i).cap) 1000

/-- Whether alarm line A (or B) is asserted (R170). -/
def State.lineAsserted (s : State) (lineB : Bool) : Bool :=
  (Bank.indices 45).any fun i =>
    s.cond.alarm[i.val].unacked && (if lineB then (s.reaction i).lineB else (s.reaction i).lineA)

/-- How an alarm pin is driven. -/
inductive Pin where
  | notDriven
  | low
  | high
  deriving DecidableEq, Repr

/-- The level of pin ALMA or ALMB: the line's asserted state under its mode (R171). -/
def State.alarmPin (s : State) (lineB : Bool) : Pin :=
  match s.lineMode lineB, s.lineAsserted lineB with
  | .disabled, _ => .notDriven
  | .openDrain, true => .low
  | .openDrain, false => .notDriven
  | .pushPull, true => .low
  | .pushPull, false => .high

/-- The highest unacknowledged code among those with notify set, 0 when there is none (R174). -/
def State.summaryCode (s : State) : Nat :=
  match s.firstByPriority fun i => s.cond.alarm[i.val].unacked && (s.reaction i).notify with
  | none => 0
  | some i => i.val + 1

/-- The number of unacknowledged codes with notify set (R174). -/
def State.summaryCount (s : State) : Nat :=
  ((Bank.indices 45).filter fun i => s.cond.alarm[i.val].unacked && (s.reaction i).notify).length

/-- Signal 9: any condition unacknowledged (R174). -/
def State.anyUnacked (s : State) : Bool := (Bank.indices 45).any fun i => s.cond.alarm[i.val].unacked

/-! ## The table store's own conditions (R176) -/

/-- TABLE FAULT (code 44): any slot's fault flag is set. -/
def State.evalTableFault (s : State) : State := s.setSource 44 (s.store.slots.any (·.fault))

/-- TABLE MISSING (code 45): table 2, 3 or 5 is INVALID. -/
def State.evalTableMissing (s : State) : State :=
  s.setSource 45 (!((s.slot 1).valid && (s.slot 2).valid && (s.slot 4).valid))

/-- ACCOUNT INVALID (code 43): any account or book is marked INVALID (R145). -/
def State.evalAccountInvalid (s : State) : State :=
  s.setSource 43 (s.fuel.consumers.any (fun c => !c.account.valid) || s.fuel.tanks.any (fun t => !t.book.valid))

end Sys2Proof.Machine
end

