-- ==== Sys2Proof/Machine/Propulsion.lean ====
section
/-! DEFINITION. The propulsion unit (chapter 2): engine reports, the gear state machine, the demand
computation, sync groups, and the timers of an engine. The three ceilings enter the demand computation as
arguments' reads of the State. -/

namespace Sys2Proof.Machine

/-! ## Gear state and gear command (section 2.3) -/

def Direction.gear : Direction → GearState
  | .ahead => .ahead
  | .astern => .astern

/-- The direction a gear state is engaged in. -/
def GearState.dir? : GearState → Option Direction
  | .ahead => some .ahead
  | .astern => some .astern
  | _ => none

/-- The gear command: the direction in AHEAD and ASTERN, NEUTRAL (0) in NEUTRAL and SHIFTING. -/
def GearState.command : GearState → Nat
  | .ahead => 1
  | .astern => 2
  | _ => 0

/-- The stored LOCAL flag (clear while no report is stored). -/
def Engine.isLocal (g : Engine) : Bool :=
  match g.flags with
  | none => false
  | some f => f.local_

/-- Whether the engine counts as running: a report is held and shows RUNNING (R29). -/
def Engine.isRunning (g : Engine) : Bool :=
  match g.standing, g.flags with
  | .noReport, _ => false
  | _, none => false
  | _, some f => f.running

/-- The gear state an engine publishes; a not-present engine's is NEUTRAL (R30). -/
def State.publishedGear (s : State) (n : Fin 4) : GearState :=
  match s.engine? n with
  | none => .neutral
  | some _ => (s.engineAt n).gear

/-- Signal 5: at least one engine is ASTERN (R30, R94). -/
def State.anyAstern (s : State) : Bool := (Bank.indices 4).any fun n => s.publishedGear n = .astern

/-- Engine states in the order of R30. -/
inductive EngineStateName where
  | notFitted
  | noReport
  | reportLost
  | gearFault
  | local_
  | stopped
  | alarm
  | synced
  | running
  deriving DecidableEq, Repr

def EngineStateName.code : EngineStateName → Nat
  | .notFitted => 0
  | .noReport => 1
  | .reportLost => 2
  | .gearFault => 3
  | .local_ => 4
  | .stopped => 5
  | .alarm => 6
  | .synced => 7
  | .running => 8

/-- The engine state: the first line of R30's table that holds. -/
def State.engineState (s : State) (n : Fin 4) : EngineStateName :=
  match s.engine? n with
  | none => .notFitted
  | some _ =>
    let g := s.engineAt n
    if g.standing = .noReport then .noReport
    else if g.standing = .lost then .reportLost
    else if g.gearFault then .gearFault
    else if g.isLocal then .local_
    else if !g.isRunning then .stopped
    else if g.flags.any (·.alarm) then .alarm
    else if g.member = .trimmed then .synced
    else .running

/-! ## Sync groups (section 2.5) -/

/-- Whether an engine is eligible in its group (R46). -/
def State.eligible (s : State) (n : Fin 4) : Bool :=
  match s.engine? n with
  | none => false
  | some _ =>
    let g := s.engineAt n
    g.standing = .current && !g.isLocal && !g.gearFault

/-- The lead of a channel's group, if it has one. -/
def State.leadOf (s : State) (c : Fin 4) : Option (Fin 4) :=
  (s.group c).find? fun n => (s.engineAt n).member = .lead

/-- Condition SYNC DROPPED (R48): an engine of an armed group is DROPPED. -/
def State.evalSyncDropped (s : State) : State :=
  s.setSource 19 ((Bank.indices 4).any fun c =>
    s.prop.sync[c.val] && (s.group c).any fun n => (s.engineAt n).member = .dropped)

/-- A member status with τ = 0. -/
def Engine.asMember (g : Engine) (m : Member) : Engine := { g with member := m, trim := 0 }

/-- What a change of lead does to an engine of the group that is not the new lead (R46): `lost` says that
the previous lead ceased to be eligible. The previous lead becomes WAITING in both cases. -/
def Engine.onLeadChange (lost : Bool) (g : Engine) : Engine :=
  match g.member with
  | .trimmed => g.asMember (if lost then .dropped else .waiting)
  | .lead => g.asMember .waiting
  | _ => g

/-- A change of an armed group's lead from `old` to `new` (R46). -/
def State.changeLead (s : State) (c : Fin 4) (old new : Option (Fin 4)) : State :=
  let lost := match old with
    | none => false
    | some o => !s.eligible o
  (s.group c).foldl (fun t n =>
    if some n = new then t.modEngine n (fun g => g.asMember .lead)
    else if old = none then t
    else t.modEngine n (Engine.onLeadChange lost)) s

/-- The re-evaluation of a channel's lead (R46): the lowest-numbered eligible engine of an armed group. -/
def State.reLead (s : State) (c : Fin 4) : State :=
  if s.prop.sync[c.val] then
    let new := (s.group c).find? fun n => s.eligible n
    let old := s.leadOf c
    if old = new then s else (s.changeLead c old new).evalSyncDropped
  else s

/-- The re-evaluation of the lead of engine n's own channel. -/
def State.reLeadOf (s : State) (n : Fin 4) : State :=
  match s.engine? n with
  | none => s
  | some e => s.reLead (ix4 e.channel)

/-- SYNC ON c handed over (R44): a disarmed channel is armed, its lead chosen, and every other engine of
the group becomes WAITING; an armed one is left alone. -/
def State.armSync (s : State) (c : Fin 4) : State :=
  if s.prop.sync[c.val] then s
  else
    let s1 := s.withProp { s.prop with sync := s.prop.sync.set c.val true c.isLt }
    let lead := (s1.group c).find? fun n => s1.eligible n
    ((s1.group c).foldl (fun t n =>
      t.modEngine n (fun g => g.asMember (if some n = lead then .lead else .waiting))) s1).evalSyncDropped

/-- SYNC OFF c handed over (R44): every engine of the group becomes OUTSIDE with τ = 0. -/
def State.disarmSync (s : State) (c : Fin 4) : State :=
  if s.prop.sync[c.val] then
    let s1 := s.withProp { s.prop with sync := s.prop.sync.set c.val false c.isLt }
    ((s1.group c).foldl (fun t n => t.modEngine n (fun g => g.asMember .outside)) s1).evalSyncDropped
  else s

/-! ## Gear faults (R36, R37) -/

/-- Engine n's gear fault clears: the fault, then the source of GEAR FAULT n, then the lead. -/
def State.clearGearFault (s : State) (n : Fin 4) : State :=
  if (s.engineAt n).gearFault then
    ((s.modEngine n (fun g => { g with gearFault := false })).setSource (11 + n.val) false).reLeadOf n
  else s

/-- A station becomes holder: every gear fault clears (R37). -/
def State.clearAllGearFaults (s : State) : State := (Bank.indices 4).foldl (fun t n => t.clearGearFault n) s

/-! ## The gear state machine (R31 to R34) -/

/-- Leaving direction `d` (R33): the disengage phase restarts at RPM WAIT. -/
def Engine.depart (g : Engine) (d : Direction) : Engine :=
  { g with
    lastDir := some d
    confirm := none
    unconfirmed := false
    phase := .rpmWait
    dwell := none }

/-- Engaging direction `d` at `now` (R32, R34): the confirm timer starts at 4 s unless LOCAL is set. -/
def Engine.engage (now : Moment) (g : Engine) (d : Direction) : Engine :=
  { g with
    gear := d.gear
    shiftTarget := none
    unconfirmed := true
    confirm := if g.isLocal then none else some (now + Config.confirmTime) }

/-- The gear transitions of one demand computation on the wanted direction `w` (`none` is neutral). -/
def Engine.gearStep (now : Moment) (g : Engine) (w : Option Direction) : Engine :=
  match g.gear with
  | .neutral =>
    match w with
    | none => g
    | some d =>
      if g.lastDir = none ∨ g.lastDir = some d ∨ g.phase = .complete then g.engage now d
      else { g with gear := .shifting, shiftTarget := some d }
  | .ahead =>
    match w with
    | some .ahead => g
    | none => { g.depart .ahead with gear := .neutral, shiftTarget := none }
    | some .astern => { g.depart .ahead with gear := .shifting, shiftTarget := some .astern }
  | .astern =>
    match w with
    | some .astern => g
    | none => { g.depart .astern with gear := .neutral, shiftTarget := none }
    | some .ahead => { g.depart .astern with gear := .shifting, shiftTarget := some .ahead }
  | .shifting =>
    match w with
    | none => { g with gear := .neutral, shiftTarget := none }
    | some d =>
      if g.phase = .complete then g.engage now d else { g with shiftTarget := some d }

/-- The wanted direction (R31), from the clamped lever `l`, the dead band, whether the curve table is
VALID, and the engine's record. -/
def wantedDirection (l : Int) (dead : Nat) (curvesValid : Bool) (g : Engine) : Option Direction :=
  if l.natAbs ≤ dead ∨ curvesValid = false ∨ g.isRunning = false ∨ g.gearFault = true then none
  else if 0 < l then some .ahead
  else some .astern

/-! ## Thrust, target, ramp, trim and command (R39 to R45) -/

/-- The curve at lever magnitude `m` (R39): first y below the first breakpoint, last y beyond the last,
straight lines between, truncated. -/
def curveAt (m : Nat) : List (Nat × Nat) → Nat
  | [] => 0
  | [p] => p.2
  | p :: q :: rest =>
    if m < p.1 then p.2
    else if m ≤ q.1 then p.2 + (q.2 - p.2) * (m - p.1) / (q.1 - p.1)
    else curveAt m (q :: rest)

/-- The thrust y of the wanted direction (R39), before the ceiling. -/
def thrustY (k : Option ChannelCurves) (w : Option Direction) (m : Nat) : Nat :=
  match k, w with
  | some c, some .ahead => curveAt m c.ahead
  | some c, some .astern => curveAt m c.astern
  | _, _ => 0

/-- The full-thrust speed of the engaged direction, idle in NEUTRAL and SHIFTING, so that R40's two cases
are one formula. -/
def maxFor (e : EngineEntry) (gear : GearState) : Nat :=
  match gear with
  | .ahead => e.maxAhead
  | .astern => e.maxAstern
  | _ => e.idle

/-- The target rpm T at thrust t, and with t the effective ceiling the ceiling rpm R_c (R40). -/
def rpmAt (e : EngineEntry) (gear : GearState) (t : Nat) : Nat :=
  e.idle + (maxFor e gear - e.idle) * t / 1000

/-- The ramp step of R41: r × I × 16 / 1000, at least 1. -/
def rampStep (r interval : Nat) : Nat := max 1 (r * interval * 16 / 1000)

/-- The ramp and clamp stage (R41). -/
def rampSetpoint (e : EngineEntry) (interval target ceiling sp : Nat) : Nat :=
  let moved :=
    if sp < 16 * target then min (sp + rampStep e.rampUp interval) (16 * target)
    else if 16 * target < sp then max (sp - rampStep e.rampDown interval) (16 * target)
    else sp
  min moved (16 * ceiling)

/-- One trim step (R45). -/
def trimStep (k : Nat) (leadRpm ownRpm : Nat) (tau : Int) : Int :=
  clampTo 800 (tau + ((leadRpm : Int) - ownRpm) * k)

/-- The speed command (R43): setpoint with trim rounded to the nearest rpm, halves upward, then clamped to
[idle, R_c]. -/
def speedCommand (idle ceiling sp : Nat) (tau : Int) : Nat :=
  max idle (min ceiling (((sp : Int) + tau + 8) / 16).toNat)

/-- The gear test of R47. -/
def gearTest (own lead : GearState) : Bool := own = lead && (own = .ahead || own = .astern)

/-- The speed test of R47. -/
def speedTest (own lead : Option Nat) : Bool :=
  match own, lead with
  | some o, some l => ((l : Int) - o).natAbs ≤ 150
  | _, _ => false

/-- The member evaluation and trim (R47, R45) of an engine that is not its armed group's lead; `lead` is
the lead's record, `eligible` whether the engine is eligible. -/
def Engine.evalMember (k : Nat) (eligible : Bool) (lead : Option Engine) (g : Engine) : Engine :=
  let gearOk := match lead with
    | none => false
    | some l => gearTest g.gear l.gear
  let speedOk := match lead with
    | none => false
    | some l => speedTest g.rpm l.rpm
  let trimmedBy (h : Engine) : Engine :=
    match lead, h.rpm with
    | some l, some own =>
      match l.rpm with
      | some lr => if h.fresh && l.fresh then { h with trim := trimStep k lr own h.trim } else h
      | none => h
    | _, _ => h
  match g.member with
  | .trimmed =>
    if g.isLocal || g.gearFault then g.asMember .dropped
    else if !gearOk then g.asMember .waiting
    else if g.standing = .lost then g
    else if !speedOk then g.asMember .dropped
    else trimmedBy g
  | .waiting =>
    if eligible && gearOk && speedOk then trimmedBy (g.asMember .trimmed) else { g with trim := 0 }
  | .dropped =>
    if eligible && gearOk && speedOk then trimmedBy (g.asMember .trimmed) else { g with trim := 0 }
  | _ => { g with trim := 0 }

/-- Stage 5 for engine n of channel c (R38): the member evaluation for an engine of an armed group that is
not its lead. -/
def State.stageTrim (s : State) (n c : Fin 4) : State :=
  let g := s.engineAt n
  if s.prop.sync[c.val] then
    if g.member = .lead then s.modEngine n (fun g => { g with trim := 0 })
    else
      (s.modEngine n
        (Engine.evalMember s.syncGain (s.eligible n) ((s.leadOf c).map s.engineAt))).evalSyncDropped
  else s.modEngine n (fun g => { g with trim := 0 })

/-- The clearing of engine n's gear fault by the lever in its dead band, made at the engine's demand
computation before the wanted direction is found (R37). -/
def State.faultByLever (s : State) (n : Fin 4) (l : Int) (dead : Nat) : State :=
  if l.natAbs ≤ dead then s.clearGearFault n else s

/-- The demand computation of engine n (R38), given its table entry, the interval I of the slot in ms, and
the effective ceiling C_eff read at that moment. -/
def State.demand (s : State) (n : Fin 4) (e : EngineEntry) (interval cEff : Nat) : EngineCommand × State :=
  let c := ix4 e.channel
  let l := clampTo 1000 s.station.inUse.levers[c.val]
  let s1 := s.faultByLever n l (s.deadBand c)
  let w := wantedDirection l (s1.deadBand c) (s1.curves? c).isSome (s1.engineAt n)
  let s2 := s1.modEngine n (fun g => g.gearStep s1.now w)
  let gear := (s2.engineAt n).gear
  let y := thrustY (s2.curves? c) w l.natAbs
  let target := rpmAt e gear (min y cEff)
  let ceiling := rpmAt e gear cEff
  let s3 := s2.modEngine n (fun g => { g with setpoint := rampSetpoint e interval target ceiling g.setpoint })
  let s4 := s3.stageTrim n c
  let g := s4.engineAt n
  let cmd := { rpm := speedCommand e.idle ceiling g.setpoint g.trim, gear := gear.command }
  (cmd, s4.modEngine n (fun g => { g with lastCommand := some cmd }))

/-! ## Reports, misses and node changes (R27 to R29, R34, R35) -/

/-- The neutral dwell of an engine in clock units: 0 stands for the default of 2.0 s (R23). -/
def dwellTime (e : EngineEntry) : Nat := ms (100 * (if e.dwell = 0 then 20 else e.dwell))

/-- LOCAL's effect on the confirm timer (R29): it is stopped while LOCAL is set, and starts afresh at 4 s
when LOCAL clears with a direction commanded and unconfirmed. -/
def Engine.localEffect (now : Moment) (wasLocal : Bool) (g : Engine) : Engine :=
  if g.isLocal then { g with confirm := none }
  else if wasLocal && g.unconfirmed && g.gear.dir?.isSome then
    { g with confirm := some (now + Config.confirmTime) }
  else g

/-- The confirmation of R35: a report whose confirmed gear equals the gear command, while the confirm timer
runs, stops the timer. -/
def Engine.confirmBy (g : Engine) : Engine :=
  if g.confirm.isSome && decide (g.confirmedGear = some g.gear.command) then
    { g with confirm := none, unconfirmed := false }
  else g

/-- The end of the rpm wait (R34). -/
def Engine.endRpmWait (now : Moment) (e : EngineEntry) (g : Engine) : Engine :=
  if g.phase = .rpmWait ∧ g.rpm.any (fun r => r ≤ e.idle + 20) then
    { g with phase := .dwell, dwell := some (now + dwellTime e) }
  else g

/-- A good engine report stored in the record, with its effects on the gear machine (R27). That LOCAL acts on the
confirm timer (R29) before the confirmation (R35), so that a report which sets LOCAL confirms nothing, is DEDUCED
(notes/assumptions/10.md). -/
def Engine.takeReport (now : Moment) (e : EngineEntry) (r : EngineReport) (g : Engine) : Engine :=
  let stored :=
    { g with
      rpm := some r.rpm
      confirmedGear := some r.gear
      flags := some r.flags
      fresh := true
      ageFrom := now
      standing := (match g.standing with
        | .noReport => .current
        | x => x) }
  ((stored.localEffect now g.isLocal).confirmBy).endRpmWait now e

/-- A good engine report handed over (R27, R29). -/
def State.engineReport (s : State) (n : Fin 4) (e : EngineEntry) (r : EngineReport) : State :=
  ((s.modEngine n (Engine.takeReport s.now e r)).setSource (15 + n.val) r.flags.local_).reLeadOf n

/-- A miss recorded against engine n's node (R27). -/
def State.engineMiss (s : State) (n : Fin 4) : State := s.modEngine n (fun g => { g with fresh := false })

/-- Engine n's node becomes LOST or returns to PRESENT (R28). -/
def State.engineNode (s : State) (n : Fin 4) (lost : Bool) : State :=
  ((s.modEngine n (fun g => { g with standing := if lost then .lost else .current })).setSource
    (7 + n.val) lost).reLeadOf n

/-- What a hand-over does to every present engine whose table node is the address, in engine order; no two share a
node (R23). -/
def State.onEnginesOf (s : State) (address : Nat) (f : State → Fin 4 → EngineEntry → State) : State :=
  (Bank.indices 4).foldl (fun t n =>
    match t.engine? n with
    | none => t
    | some e => if e.node = address then f t n e else t) s

/-- A good engine report of the node at an address, handed to the engine whose node it is (R27); a report from a node
that belongs to no present engine reaches none. -/
def State.enginesReport (s : State) (address : Nat) (r : EngineReport) : State :=
  s.onEnginesOf address fun t n e => t.engineReport n e r

/-- A miss recorded against the node at an address (R27). -/
def State.enginesMiss (s : State) (address : Nat) : State := s.onEnginesOf address fun t n _ => t.engineMiss n

/-- The loss or the return of the node at an address (R28). -/
def State.enginesNode (s : State) (address : Nat) (lost : Bool) : State :=
  s.onEnginesOf address fun t n _ => t.engineNode n lost

/-! ## The engine's timers (R34, R36) -/

/-- The dwell timer expires: the disengage phase becomes COMPLETE (R34). -/
def State.dwellExpires (s : State) (n : Fin 4) : State :=
  match (s.engineAt n).dwell with
  | none => s
  | some t => (s.reach t).modEngine n (fun g => { g with phase := .complete, dwell := none })

/-- The gear fault entered when the confirm timer expires (R36). -/
def Engine.failConfirm (g : Engine) : Engine :=
  { g with
    gearFault := true
    gear := .neutral
    shiftTarget := none
    lastDir := match g.gear.dir? with
      | none => g.lastDir
      | some d => some d
    phase := .rpmWait
    dwell := none
    confirm := none
    unconfirmed := false }

/-- The confirm timer of engine n expires unconfirmed (R36). -/
def State.confirmExpires (s : State) (n : Fin 4) : State :=
  match (s.engineAt n).confirm with
  | none => s
  | some t =>
    (((s.reach t).modEngine n Engine.failConfirm).setSource (11 + n.val) true).reLeadOf n

/-- DWELL_TIMER_EXPIRY: the neutral dwell of the named engine expires (R34). -/
def execDwellTimerExpiry (e : Env) (engine : Nat) (s : State) : Host.Outcome State Fault Refusal :=
  .next (match ix4? engine with
    | none => s.enter e
    | some n => (s.enter e).dwellExpires n)

/-- CONFIRM_TIMER_EXPIRY: the named engine's confirm timer expires unconfirmed (R36). -/
def execConfirmTimerExpiry (e : Env) (engine : Nat) (s : State) : Host.Outcome State Fault Refusal :=
  .next (match ix4? engine with
    | none => s.enter e
    | some n => (s.enter e).confirmExpires n)

/-! ## Reset and the engine table (R49, R24) -/

/-- An engine record as a reset sets it (R49). `idle` is 0 for an engine that is not present, so that its setpoint
becomes 0 at a reset and at an engine table application (R24): the engine has no idle in use, R49 gives 16 × idle and
section 2.1 a range from 16 × idle up: DESIGN CHOICE (notes/assumptions/21.md). -/
def Engine.fresh0 (now : Moment) (idle : Nat) : Engine := { setpoint := 16 * idle, ageFrom := now }

/-- The propulsion unit's values after either reset, under the engine table in use (R49). -/
def State.resetProp (s : State) : State :=
  s.withProp
    { engines := Vector.ofFn fun n : Fin 4 =>
        Engine.fresh0 s.now (match s.engine? n with
          | none => 0
          | some e => e.idle)
      sync := Vector.replicate 4 false }

/-- An engine's record after an engine table application (R24): as a reset sets it, but that the report
fields, standing, fresh flag and report age stay where the engine keeps its node. DEDUCED (notes/assumptions/10.md):
an engine that the replaced table had not present keeps no report state, and one that becomes present with its node
already LOST is NO REPORT until the node's return, since only a change to LOST is handed over (R28). -/
def keepReports (old new : Option EngineEntry) (now : Moment) (g : Engine) : Engine :=
  match new with
  | none => Engine.fresh0 now 0
  | some e =>
    match old with
    | none => Engine.fresh0 now e.idle
    | some o =>
      if o.node = e.node then
        { Engine.fresh0 now e.idle with
          rpm := g.rpm
          confirmedGear := g.confirmedGear
          flags := g.flags
          standing := g.standing
          fresh := g.fresh
          ageFrom := g.ageFrom }
      else Engine.fresh0 now e.idle

/-- The sources of REPORT LOST, GEAR FAULT and LOCAL CONTROL of engine n after an application (R24). -/
def State.handEngineSources (s : State) (n : Fin 4) : State :=
  let g := s.engineAt n
  let fitted := (s.engine? n).isSome
  ((s.setSource (7 + n.val) (fitted && decide (g.standing = .lost))).setSource (11 + n.val) false).setSource
    (15 + n.val) (fitted && g.isLocal)

/-- The propulsion unit acts on a new engine table (R24); `old` is the part before the table was put in
use. -/
def State.applyEngineTable (s old : State) : State :=
  let s1 := s.withProp
    { engines := Vector.ofFn fun n : Fin 4 => keepReports (old.engine? n) (s.engine? n) s.now (s.engineAt n)
      sync := Vector.replicate 4 false }
  ((Bank.indices 4).foldl (fun t n => t.handEngineSources n) s1).evalSyncDropped

end Sys2Proof.Machine
end

