-- ==== Sys2Proof/Machine/Steering.lean ====
section
/-! DEFINITION. The steering unit (chapter 3): the command computation of the rudders and of the bow unit,
the flanking interlock, bow usability, the follow check, and the effects of reports and node changes. -/

namespace Sys2Proof.Machine

/-! ## The bow node and its usability (R58) -/

/-- The bow node: the make-up entry at the BOW entry's tow node index, provided it carries the bow unit
flag; its index counts from 0 (R58, R83). -/
def State.bowNode (s : State) : Option (Nat × MakeUpEntry) :=
  match s.actuator? bowIx with
  | none => none
  | some a =>
    if a.node = 0 then none
    else
      match s.pollList[a.node - 1]? with
      | none => none
      | some m => if m.bow then some (a.node - 1, m) else none

/-- The state of a tow node record; a node without a record is ABSENT. -/
def State.towNodeState (s : State) (i : Nat) : TowNodeState :=
  match s.towLine.nodes[i]? with
  | none => .absent
  | some n => n.state

/-- Whether the bow unit is usable (R58). -/
def State.bowUsable (s : State) : Bool :=
  match s.bowNode with
  | none => false
  | some (i, m) => s.towNodeState i = .present && (s.coup.mode = .normal || !m.cutB)

/-! ## Check standing (R63) -/

/-- The check standing of R63 for an actuator at position `i`. -/
def Actuator.standingAt (i : Fin 7) (a : Actuator) : CheckStanding :=
  if a.reported = none then .suspended
  else if i = bowIx then (if a.usable then .active else .suspended)
  else if a.nodeLost then .suspended
  else .active

/-- The check standing re-evaluated; on entering SUSPENDED both runs end (R63). -/
def Actuator.refreshStanding (i : Fin 7) (a : Actuator) : Actuator :=
  match a.standingAt i with
  | .active => { a with standing := .active }
  | .suspended => { a with standing := .suspended, outStart := none, inStart := none }

/-- The BOW record prepared for its next computation when the bow unit becomes usable again (R59). -/
def Actuator.prepareBow (limit : Nat) (a : Actuator) : Actuator :=
  { a with
    usable := true
    commanded := (match a.reported with
      | none => 0
      | some r => clampTo limit r)
    lastComputation := none }

/-- The usability found at an evaluation, taken into the BOW record (R58, R59, R63). -/
def Actuator.setUsable (limit : Nat) (usable : Bool) (a : Actuator) : Actuator :=
  (if usable then (if a.usable then a else a.prepareBow limit) else { a with usable := false }).refreshStanding
    bowIx

/-- The re-evaluation of bow usability and of BOW UNAVAILABLE (code 27; R58). A BOW entry that is not
present raises nothing. -/
def State.evalBow (s : State) : State :=
  match s.actuator? bowIx with
  | none => (s.modActuator bowIx (Actuator.setUsable 0 false)).setSource 27 false
  | some a =>
    (s.modActuator bowIx (Actuator.setUsable a.limit s.bowUsable)).setSource 27 (!s.bowUsable)

/-! ## The command computation (R54 to R57, R59, R61) -/

/-- The source value v of R55. -/
def State.steerSource (s : State) (a : SteerEntry) : Int :=
  if a.flankSource then s.station.inUse.flanking else s.station.inUse.steering

/-- The target of R55: v × gain / 1000, truncated toward zero, clamped to ±limit. -/
def steerTarget (a : SteerEntry) (v : Int) : Int := clampTo a.limit ((v * a.gain).tdiv 1000)

/-- The step of R56: rate × I / 1000, at least 1. -/
def steerStep (rate interval : Nat) : Nat := max 1 (rate * interval / 1000)

/-- The commanded angle moved toward the target (R56). -/
def moveToward (step : Nat) (target commanded : Int) : Int :=
  if commanded < target then min (commanded + step) target
  else if target < commanded then max (commanded - step) target
  else commanded

/-- One computation of an actuator record: `centring` says that its hold gives way (R61) or that the
target is forced to 0 by the flanking interlock (R57). -/
def Actuator.compute (now : Moment) (a : SteerEntry) (interval : Nat) (v : Int) (centring : Bool)
    (r : Actuator) : Actuator :=
  let target := if centring then 0 else steerTarget a v
  let moved := moveToward (steerStep a.rate interval) target r.commanded
  let base := { r with target := target, lastComputation := some now }
  if r.fault && a.freeze then
    match r.frozen with
    | some f => if centring then { base with frozen := none, commanded := moved } else { base with commanded := f }
    | none => { base with commanded := moved }
  else { base with commanded := moved }

/-- Whether the flanking interlock forces the target of position `i` to 0: a FLANKING actuator whose
interlock engine's gear state is not ASTERN (R57). -/
def State.interlocked (s : State) (i : Fin 7) (a : SteerEntry) : Bool :=
  isFlanking i && !decide (s.publishedGear (ix4 a.interlock) = .astern)

/-- The computation of a MAIN or FLANKING actuator at its EXCHANGE slot, interval in ms (R54). -/
def State.rudderCompute (s : State) (i : Fin 7) (a : SteerEntry) (interval : Nat) : State :=
  s.modActuator i (Actuator.compute s.now a interval (s.steerSource a) (s.interlocked i a))

/-- The bow computation that finds the unit not usable (R59): target 0, commanded angle 0 at once, and the
frozen angle of a standing fault given up (R61). -/
def Actuator.centreBow (now : Moment) (r : Actuator) : Actuator :=
  { r with target := 0, commanded := 0, frozen := none, lastComputation := some now }

/-- The interval of a bow computation, ms (R54): the time since the last computation, or the poll interval
in use at the first. A part of a millisecond of that time is dropped: DESIGN CHOICE (notes/assumptions/21.md). The
interval in use is that of the general table in use, at once after a load of it: DESIGN CHOICE
(notes/assumptions/22.md). -/
def State.bowInterval (s : State) : Nat :=
  match (s.actuatorAt bowIx).lastComputation with
  | none => s.pollInterval
  | some t => (s.now - t) / 100

/-- The BOW computation made when a poll to the bow node is composed (R54, R58, R59); the demand is the
commanded angle it leaves. -/
def State.bowCompute (s : State) : State :=
  let s1 := s.evalBow
  match s1.actuator? bowIx with
  | none => s1
  | some a =>
    if s1.bowUsable then
      s1.modActuator bowIx (Actuator.compute s1.now a s1.bowInterval (s1.steerSource a) false)
    else s1.modActuator bowIx (Actuator.centreBow s1.now)

/-! ## The follow check (R60, R62) -/

/-- One observation of a record against its entry, made at `now` after the reported angle is stored (R60, R62). The
angle compared is the record's commanded angle, also while R52, R59 or R65 has set it and no frame has carried it yet:
DEDUCED (notes/assumptions/10.md). -/
def Actuator.observe (now : Moment) (a : SteerEntry) (r : Actuator) : Actuator :=
  match r.reported with
  | none => r
  | some angle =>
    let out := decide (a.tolerance < (angle - r.commanded).natAbs)
    if r.fault then
      if out then { r with inStart := none }
      else
        let start := r.inStart.getD now
        if start + Config.followClearTime ≤ now then
          { r with fault := false, outStart := none, inStart := none, frozen := none }
        else { r with inStart := some start }
    else if out then
      let start := r.outStart.getD now
      if start + ms (100 * a.followTime) ≤ now then
        { r with
          fault := true
          outStart := some start
          inStart := none
          frozen := if a.freeze then some (clampTo a.limit angle) else none }
      else { r with outStart := some start }
    else { r with outStart := none }

/-- A reported angle stored, clamped to ±450, and the follow observation made if the check standing is
ACTIVE (R53). -/
def Actuator.takeAngle (now : Moment) (i : Fin 7) (a : SteerEntry) (angle : Int) (r : Actuator) : Actuator :=
  let stored := Actuator.refreshStanding i { r with reported := some (clampTo 450 angle) }
  if stored.standing = .active then stored.observe now a else stored

/-- A valid report or bow poll reply handed to the steering unit, with FOLLOW FAULT of the actuator (codes
20 to 26 by position) handed to the condition unit (R53, R60, R62). -/
def State.actuatorReport (s : State) (i : Fin 7) (a : SteerEntry) (angle : Int) : State :=
  let s1 := s.modActuator i (Actuator.takeAngle s.now i a angle)
  s1.setSource (20 + i.val) (s1.actuatorAt i).fault

/-- The node of a MAIN or FLANKING actuator becomes LOST or returns (R63). -/
def State.actuatorNode (s : State) (i : Fin 7) (lost : Bool) : State :=
  s.modActuator i (fun r => Actuator.refreshStanding i { r with nodeLost := lost })

/-- What a hand-over does to every present MAIN and FLANKING actuator whose table node is the address, in position
order (R53); no two share a node (R51). -/
def State.onRuddersOf (s : State) (address : Nat) (f : State → Fin 7 → SteerEntry → State) : State :=
  (Bank.indices 6).foldl (fun t i =>
    match t.actuator? i.castSucc with
    | none => t
    | some a => if a.node = address then f t i.castSucc a else t) s

/-- A valid rudder report from the node at an address reaches the present MAIN or FLANKING actuator there, whatever
slot brought it (R53); one from a node that belongs to no present actuator reaches none. -/
def State.ruddersReport (s : State) (address : Nat) (angle : Int) : State :=
  s.onRuddersOf address fun t i a => t.actuatorReport i a angle

/-- The machinery scheduler comes to hold a node LOST, or no longer does (R53, R63): every MAIN and FLANKING actuator
at that address follows, whichever content the slot table gives the node. -/
def State.followNode (s : State) (address : Nat) (lost : Bool) : State :=
  s.onRuddersOf address fun t i _ => t.actuatorNode i lost

/-! ## Reset and the steering table (R65, R52) -/

/-- The limit of an actuator's entry; 0 for an actuator that is not present. -/
def State.steerLimit (s : State) (i : Fin 7) : Nat :=
  match s.actuator? i with
  | none => 0
  | some a => a.limit

/-- An actuator record as a reset leaves it, holding the reported angle `reported` (R65). BOW stands SUSPENDED though
an angle is held, since the bow unit is not usable yet (R63): DEDUCED (notes/assumptions/10.md). -/
def Actuator.atReset (i : Fin 7) (limit : Nat) (lost : Bool) (reported : Option Int) : Actuator :=
  Actuator.refreshStanding i
    { reported := reported
      commanded := (match reported with
        | none => 0
        | some r => clampTo limit r)
      nodeLost := lost }

/-- The steering unit's values after a reset; a control restart keeps the reported angles, a cold start
does not (R65). -/
def State.resetSteer (s : State) (keep : Bool) : State :=
  s.withSteer
    { actuators := Vector.ofFn fun i : Fin 7 =>
        Actuator.atReset i (s.steerLimit i) false (if keep then (s.actuatorAt i).reported else none) }

/-- An actuator record after a steering table application (R52): as a control restart sets it, keeping the
reported angle of an actuator that keeps its node. -/
def State.steerAfterTable (s old : State) (i : Fin 7) : Actuator :=
  match s.actuator? i with
  | none => Actuator.atReset i 0 false none
  | some a =>
    let lost := decide (i ≠ bowIx) && decide (s.machStateOf a.node = .lost)
    match old.actuator? i with
    | none => Actuator.atReset i a.limit lost none
    | some o => Actuator.atReset i a.limit lost (if o.node = a.node then (s.actuatorAt i).reported else none)

/-- The steering unit acts on a new steering table (R52); `old` is the part before it was put in use. -/
def State.applySteeringTable (s old : State) : State :=
  let s1 := s.withSteer { actuators := Vector.ofFn fun i : Fin 7 => s.steerAfterTable old i }
  ((Bank.indices 7).foldl (fun t i => t.setSource (20 + i.val) false) s1).evalBow

end Sys2Proof.Machine
end

