-- ==== Sys2Proof/Machine/Couplings.lean ====
section
/-! DEFINITION. The coupling supervisor (chapter 6): the coupling state machine, its conditions, the tow
ceiling, and the changes of split mode; with the tow line controller's own conditions (R91, R95), which a
change of split mode re-evaluates. -/

namespace Sys2Proof.Machine

/-! ## The tow line controller's conditions (R91, R95) -/

/-- TOW NODE SILENT (code 29): a SILENT node that is not excused; a cut B node is excused while split mode is
SPLITTING or SPLIT (R91). -/
def State.evalTowSilent (s : State) : State :=
  let away := s.coup.mode = .splitting || s.coup.mode = .split
  s.setSource 29 ((s.towLine.nodes.zip s.pollList).any fun p =>
    decide (p.1.state = .silent) && !(away && p.2.cutB))

/-- TOW NODE FAULT (code 30): any node in FAULT (R91). -/
def State.evalTowFault (s : State) : State := s.setSource 30 (s.towLine.nodes.any fun n => n.state = .fault)

/-- Whether a node's in-bits hold an active bit bound to tow input `input` (1 for A, 2 for B) under its
profile (R95): bits 0–1 of the binding byte name the input, bit 7 makes the active sense LOW. -/
def inputActive (b : Bytes) (profile input : Nat) (bits : Byte) : Bool :=
  (List.range 8).any fun k =>
    let binding := inBinding b profile k
    binding % 4 == input && bitOf bits.toNat k != bitOf binding 7

/-- Whether tow input `input` is active over all nodes (R95): nodes in PRESENT or FAULT count, by their last
reply; while table 12 is INVALID every in-bit is IGNORE (R93). -/
def State.towInput (s : State) (input : Nat) : Bool :=
  match s.tableImage 11 with
  | none => false
  | some b =>
    (s.towLine.nodes.zip s.pollList).any fun p =>
      (decide (p.1.state = .present) || decide (p.1.state = .fault)) &&
        match p.1.reply with
        | none => false
        | some r => inputActive b p.2.profile input r.inBits

/-- TOW INPUT A (code 36) and TOW INPUT B (code 37), R95. -/
def State.evalTowInputs (s : State) : State := (s.setSource 36 (s.towInput 1)).setSource 37 (s.towInput 2)

/-! ## Coupling conditions (R111, R112) -/

/-- COUPLING SLACK, OVERLOAD and PARTED (codes 31 to 33), R111. -/
def State.evalCouplingStates (s : State) : State :=
  ((s.setSource 31 (s.coup.records.any fun r => r.state = .slack)).setSource 32
    (s.coup.records.any fun r => r.state = .overload)).setSource 33
    (s.coup.records.any fun r => r.state = .parted)

/-- The make-up entry a coupling entry names. -/
def State.couplingNode (s : State) (e : CouplingEntry) : Option MakeUpEntry :=
  if e.nodeIndex = 0 then none else s.pollList[e.nodeIndex - 1]?

/-- The state of the node a coupling entry names. -/
def State.couplingNodeState (s : State) (e : CouplingEntry) : TowNodeState :=
  if e.nodeIndex = 0 then .absent else s.towNodeState (e.nodeIndex - 1)

/-- Whether an UNKNOWN record is counted toward TOW BLIND (R112). -/
def State.blindCounts (s : State) (e : CouplingEntry) : Bool :=
  let away := s.coup.mode = .splitting || s.coup.mode = .split
  let cutB := match s.couplingNode e with
    | none => false
    | some m => m.cutB
  !decide (s.couplingNodeState e = .absent) && !(away && cutB)

/-- The number of counted UNKNOWN couplings (R112). -/
def State.blindCount (s : State) : Nat :=
  ((s.coup.records.zip s.couplingEntries).filter fun p =>
    decide (p.1.state = .unknown) && s.blindCounts p.2).length

/-- TOW BLIND (code 34), R112. -/
def State.evalTowBlind (s : State) : State := s.setSource 34 (decide (s.towLimits.blind ≤ s.blindCount))

/-- Conditions 31 to 34 re-evaluated. -/
def State.evalCouplings (s : State) : State := s.evalCouplingStates.evalTowBlind

/-! ## The tow ceiling (R113 to R116) -/

/-- The ratio ρ of a record, absent with the last tension (section 6.2): last tension × 1000 / rated. -/
def ratioOf (c : Coupling) (e : CouplingEntry) : Option Nat := c.last.map fun t => t * 1000 / e.rated

/-- Whether a record contributes to the tension value (R113). -/
def Coupling.contributes (c : Coupling) : Bool :=
  match c.state with
  | .made => true
  | .slack => true
  | .overload => true
  | _ => false

/-- The largest ρ among the contributing couplings; none when no coupling contributes (R113). -/
def State.rhoMax (s : State) : Option Nat :=
  (s.coup.records.zip s.couplingEntries).foldl (fun best p =>
    if p.1.contributes then
      match ratioOf p.1 p.2, best with
      | none, _ => best
      | some r, none => some r
      | some r, some b => some (max r b)
    else best) none

/-- The tension value C_ρ (R113). -/
def tensionValue (t : TowLimits) (rho : Option Nat) : Nat :=
  match rho with
  | none => 1000
  | some r =>
    if r ≤ t.k then 1000
    else if t.u ≤ r then t.f
    else 1000 - (1000 - t.f) * (r - t.k) / (t.u - t.k)

/-- The capped value C_cap (R114). -/
def State.cCap (s : State) : Nat :=
  let t := s.towLimits
  let v0 := tensionValue t s.rhoMax
  let v1 := if s.coup.records.any (fun r => r.state = .parted) then min v0 t.f else v0
  let v2 := if s.coup.mode = .normal then v1 else min v1 t.splitCap
  if s.coup.startLimit then min v2 t.f else v2

/-- The recomputation of R115: the published ceiling falls at once and never rises here. -/
def State.recomputeCeiling (s : State) : State := s.withCoup { s.coup with cTow := min s.coup.cTow s.cCap }

/-- The cycle end of R116: the start limit ends, then the ceiling rises by at most one recovery step, or
falls. -/
def State.cycleEnd (s : State) : State :=
  let s1 := s.withCoup { s.coup with startLimit := false }
  s1.withCoup { s1.coup with cTow := min s1.cCap (s1.coup.cTow + s1.towLimits.recovery) }

/-! ## The coupling state machine (R105 to R109) -/

/-- "At least 500 ‰ of rated", by whole tensions. -/
def atLeastHalf (p : Option Nat) (rated : Nat) : Bool :=
  match p with
  | none => false
  | some t => 500 * rated ≤ t * 1000

/-- The runs after a tension reading (R105). -/
def Coupling.run (e : CouplingEntry) (t : Nat) (c : Coupling) : Coupling :=
  if e.slack ≤ t then { c with sensor := 0, taut := satSucc 3 c.taut, slack := 0 }
  else { c with sensor := 0, slack := satSucc 2 c.slack, taut := 0 }

/-- The state after a tension reading (R106 to R109), from the record with its runs already updated and the
last tension still the previous reading's. -/
def Coupling.stateAfter (e : CouplingEntry) (t : Nat) (c : Coupling) : CouplingState :=
  match c.state with
  | .unknown => .unmade
  | .unmade => if c.taut = 3 then .made else .unmade
  | .made =>
    if e.rated ≤ t then .overload
    else if atLeastHalf c.last e.rated && decide (t < e.slack) then .parted
    else if c.slack = 2 then .slack
    else .made
  | .overload =>
    if atLeastHalf c.last e.rated && decide (t < e.slack) then .parted
    else if t * 1000 < 900 * e.rated then .made
    else .overload
  | .slack => if e.rated ≤ t then .overload else if c.taut = 3 then .made else .slack
  | .parted => if c.taut = 3 then .made else .parted
  | .opened => .opened

/-- A reading taken by a record (R105). -/
def Coupling.take (e : CouplingEntry) (r : Reading) (c : Coupling) : Coupling :=
  if c.state = .opened then c
  else
    match r with
    | .tension t =>
      let c1 := c.run e t
      { c1 with state := c1.stateAfter e t, cause := none, last := some t }
    | .sensorFault =>
      let n := satSucc 2 c.sensor
      if n = 2 ∧ c.state ≠ .unknown then
        { c with state := .unknown, cause := some .sensorFault, sensor := n, taut := 0, slack := 0 }
      else { c with sensor := n }

/-! ## Changes of split mode (R118 to R124) -/

/-- Every split coupling record set to a state, with its runs 0 (R119 to R123) and its sensor-fault count 0 (R119).
That the later split events zero the sensor-fault count too, ABORT REJOIN among them, is DEDUCED
(notes/assumptions/10.md). -/
def State.setSplitCouplings (s : State) (x : CouplingState) : State :=
  s.withCoup { s.coup with
    records := s.coup.records.mapIdx fun i c =>
      match s.couplingEntries[i]? with
      | none => c
      | some e => if e.split then { c with state := x, taut := 0, slack := 0, sensor := 0, cause := none } else c }

/-- What a change of split mode does to the split coupling records. -/
inductive SplitRecords where
  | keep
  | open
  | unmake
  deriving DecidableEq, Repr

def State.applySplitRecords (s : State) (x : SplitRecords) : State :=
  match x with
  | .keep => s
  | .open => s.setSplitCouplings .opened
  | .unmake => s.setSplitCouplings .unmade

/-- A change of split mode in the order of R124: the split couplings, the mode, the ceiling, conditions 31 to
35, the hand-over to the tow line controller (R91) and to the steering unit (R58), and the retained store.
`rejoin` is the rejoin timer's start under the new mode. Every rule that changes the mode either stops the
rejoin timer or starts it, so the source of REJOIN OVERDUE clears (R122, R123). -/
def State.setSplitMode (s : State) (m : SplitMode) (x : SplitRecords) (rejoin : Option Moment) : State :=
  let s1 := s.applySplitRecords x
  let s2 := (s1.withCoup { s1.coup with mode := m, rejoinStart := rejoin }).recomputeCeiling
  let s3 := ((s2.evalCouplings.setSource 35 false).evalTowSilent).evalBow
  s3.writeRetained .splitMode (s3.storeItem .splitMode)

/-- Every make-up entry with cut tag B is in state `x`. -/
def State.cutBAll (s : State) (x : TowNodeState) : Bool :=
  (List.range s.pollList.length).all fun i =>
    match s.pollList[i]? with
    | none => true
    | some m => !m.cutB || decide (s.towNodeState i = x)

/-- Every split coupling record is MADE. -/
def State.splitsMade (s : State) : Bool :=
  (s.coup.records.zip s.couplingEntries).all fun p => !p.2.split || decide (p.1.state = .made)

/-- The test of R120: in SPLITTING, every cut B node SILENT makes the mode SPLIT. -/
def State.testSplit (s : State) : State :=
  if s.coup.mode = .splitting ∧ s.cutBAll .silent = true then s.setSplitMode .split .keep none else s

/-- The test of R122: in REJOINING, every cut B node PRESENT and every split coupling MADE makes the mode
NORMAL. -/
def State.testRejoin (s : State) : State :=
  if s.coup.mode = .rejoining ∧ s.cutBAll .present = true ∧ s.splitsMade = true then
    s.setSplitMode .normal .keep none
  else s

/-! ## Hand-overs from the tow line controller (R90, R105, R110) -/

/-- The position of the coupling record that reads channel `ch` of the node at index `node` (from 0). -/
def State.couplingAt (s : State) (node ch : Nat) : Option (Nat × CouplingEntry) :=
  match s.couplingEntries.findIdx? (fun e => e.nodeIndex = node + 1 && e.channel = ch) with
  | none => none
  | some i => (s.couplingEntries[i]?).map fun e => (i, e)

/-- One reading handed over (R105): the record takes it, its conditions and the ceiling follow (R111, R112,
R115), and a change of its state is tested for the end of a rejoin (R122). -/
def State.couplingReading (s : State) (node ch : Nat) (r : Reading) : State :=
  match s.couplingAt node ch with
  | none => s
  | some (i, e) =>
    let before := s.coup.records[i]?
    let s1 := s.modCoupling i (Coupling.take e r)
    let changed := decide (before.map (·.state) ≠ (s1.coup.records[i]?).map (·.state))
    let s2 := s1.recomputeCeiling
    if changed then s2.evalCouplings.testRejoin else s2

/-- A record made UNKNOWN by its node (R110). -/
def Coupling.loseNode (cause : UnknownCause) (c : Coupling) : Coupling :=
  if c.state = .opened then c
  else { c with state := .unknown, cause := some cause, taut := 0, slack := 0, sensor := 0 }

/-- Every record of a node made UNKNOWN (R110). -/
def State.loseNodeCouplings (s : State) (node : Nat) (cause : UnknownCause) : State :=
  s.withCoup { s.coup with
    records := s.coup.records.mapIdx fun i c =>
      match s.couplingEntries[i]? with
      | none => c
      | some e => if e.nodeIndex = node + 1 then c.loseNode cause else c }

/-- A change of a node's state handed to the coupling supervisor (R110), with the condition code for FAULT;
then the conditions, the ceiling, and the tests of R120 and R122. -/
def State.couplingNodeChange (s : State) (node : Nat) (x : TowNodeState) (code : Nat) : State :=
  let s1 := match x with
    | .silent => s.loseNodeCouplings node .nodeSilent
    | .fault => s.loseNodeCouplings node (.nodeFault code)
    | .present => s
    | .absent => s
  ((s1.evalCouplings.recomputeCeiling).testSplit).testRejoin

/-! ## Tables and resets (R103, R104, R125) -/

/-- The coupling records built from the coupling table in use: UNKNOWN with cause START, or OPENED for a
split coupling while split mode is SPLITTING or SPLIT (R103, R125). -/
def State.freshRecords (s : State) : List Coupling :=
  s.couplingEntries.map fun e =>
    if e.split && (s.coup.mode = .splitting || s.coup.mode = .split) then
      ({ state := .opened, cause := none } : Coupling)
    else {}

/-- The coupling supervisor at a make-up or coupling table application (R103): fresh records, the start limit
active, the ceiling lowered at once. -/
def State.applyTowTables (s : State) : State :=
  let s1 := s.withCoup { s.coup with records := s.freshRecords, startLimit := true }
  s1.recomputeCeiling.evalCouplings

/-- The coupling supervisor after a reset, with split mode `m` (R125, R126). -/
def State.resetCoupling (s : State) (m : SplitMode) : State :=
  let t := s.towLimits
  let s1 := s.withCoup { s.coup with mode := m }
  s1.withCoup
    { records := s1.freshRecords
      cTow := if m = .normal then t.f else min t.f t.splitCap
      startLimit := true
      mode := m
      rejoinStart := if m = .rejoining then some s.now else none }

/-- REJOIN OVERDUE (R122): the rejoin timer has run out; split mode is not changed. -/
def State.rejoinExpires (s : State) : State :=
  (s.withCoup { s.coup with rejoinStart := none }).setSource 35 true

/-- The coupling supervisor at a tow limits application (R104): the ceiling recomputed, TOW BLIND
re-evaluated, and a running rejoin timer given its new expiry, which may already have passed (R122). -/
def State.applyTowLimits (s : State) : State :=
  let s1 := s.recomputeCeiling.evalTowBlind
  match s1.coup.rejoinStart with
  | none => s1
  | some t => if t + sec s1.towLimits.rejoin ≤ s1.now then s1.rejoinExpires else s1

/-- REJOIN_TIMER_EXPIRY (R122). -/
def execRejoinTimerExpiry (e : Env) (s : State) : Host.Outcome State Fault Refusal :=
  let s1 := s.enter e
  .next (match s1.coup.rejoinStart with
    | none => s1
    | some t => (s1.reach (t + sec s1.towLimits.rejoin)).rejoinExpires)

end Sys2Proof.Machine
end

