-- ==== Sys2Proof/Machine/Replies.lean ====
section
/-! DEFINITION. Management replies (R178, R193): composing one, and answering the request at the head of the
management queue. -/

namespace Sys2Proof.Machine

/-- A reply is composed and waits for the station line (R193); `head` marks the reply to the request at the
head of the queue. -/
def State.composeReply (s : State) (r : MgmtRequest) (status : Status) (fields : Bytes) (head : Bool) :
    State :=
  s.withTx { s.tx with
    replies := s.tx.replies ++
      [{ station := r.station, kind := r.kind, tag := r.tag, status := status, fields := fields, head := head }] }

/-- The request at the head of the queue is answered; it stays at the head until its reply has been sent,
and `after` says what follows then (R178). -/
def State.answerHead (s : State) (status : Status) (fields : Bytes) (after : AfterReply) : State :=
  match s.store.queue with
  | [] => s
  | r :: _ =>
    let s1 := s.composeReply r status fields true
    s1.withStore { s1.store with head := .answered after }

/-- The rights a station holds (R177): every group while the station table is INVALID, otherwise those of
its entry. -/
def State.holdsRight (s : State) (station : Nat) (g : Rights) : Bool :=
  match s.stationTable with
  | none => true
  | some es =>
    match es.find? (fun e => e.address = station) with
    | none => false
    | some e => bitOf e.rights g.bit

end Sys2Proof.Machine
end

