-- ==== Sys2Proof/Machine/TowLine.lean ====
section
/-! DEFINITION. The tow line controller (chapter 5): poll cycles, polls and their out-bits, replies and
misses, node transactions and poll restarts. -/

namespace Sys2Proof.Machine

/-! ## Out-bits (R94) -/

/-- The coupling records of the node at index `node` (from 0). -/
def State.couplingsOfNode (s : State) (node : Nat) : List Coupling :=
  ((s.coup.records.zip s.couplingEntries).filter fun p => p.2.nodeIndex = node + 1).map (·.1)

/-- The signal list of R94, for a poll to the entry at index `node`. -/
def State.signal (s : State) (node : Nat) (m : MakeUpEntry) (index : Nat) : Bool :=
  match index with
  | 0 => false
  | 1 => true
  | 2 => s.station.holder.isSome
  | 3 => decide (s.coup.mode ≠ .normal)
  | 4 => decide (s.coup.mode = .rejoining)
  | 5 => s.anyAstern
  | 6 => decide (s.transfer.state ≠ .idle)
  | 7 => s.coup.records.any fun r => r.state = .overload
  | 8 => s.coup.records.any fun r => r.state = .parted
  | 9 => s.anyUnacked
  | 10 => s.station.inUse.aux[0]
  | 11 => s.station.inUse.aux[1]
  | 12 => s.station.inUse.aux[2]
  | 13 => s.station.inUse.aux[3]
  | 14 => decide (s.coup.cTow < 1000)
  | 15 => !(s.couplingsOfNode node).isEmpty && (s.couplingsOfNode node).all fun r => r.state = .made
  | 16 => m.cutB
  | k => s.sourceOf (k + 12)

/-- The out-bits of a poll: bit b is the bound signal, inverted when its binding says so; every out-bit is 0
while table 12 is INVALID (R93, R94). -/
def State.outBits (s : State) (node : Nat) (m : MakeUpEntry) : Byte :=
  match s.tableImage 11 with
  | none => 0
  | some b =>
    byte (bitsToNat ((List.range 8).map fun k =>
      let binding := outBinding b m.profile k
      s.signal node m (binding % 32) != bitOf binding 7))

/-! ## Polls and poll cycles (R85, R86, R98) -/

/-- A poll to the entry at index `i` is composed and begins to leave (R86): the BOW computation for the bow
node, a demand of 0 for any other bow-flagged entry, and the reply window of 4 ms. -/
def State.sendPoll (s : State) (i : Nat) : State :=
  match s.pollList[i]? with
  | none => s
  | some m =>
    let isBow := match s.bowNode with
      | none => false
      | some (j, _) => j == i
    let s1 := if isBow then s.bowCompute else s
    let demand := if isBow then (s1.actuatorAt bowIx).commanded else 0
    let payload := [s1.outBits i m] ++ (if m.bow then beInt 2 demand else [])
    let s2 := s1.sendTow m.address 0x20 payload
    s2.withTowLine { s2.towLine with
      pos := i + 1
      spent := none
      window := some { entry := i, closeAt := s2.now + Config.pollWindow } }

/-- A cycle is complete (R85): the next start is computed, and a cycle end is handed over (R116). R85 lets a new
poll interval act at the next cycle start that the controller computes and does not say when it computes one: here it
is at the cycle's completion, with the interval then in use, so that a general table loaded later acts from the
cycle after: DESIGN CHOICE (notes/assumptions/22.md). -/
def State.completeCycle (s : State) : State :=
  (s.withTowLine { s.towLine with
    complete := true, nextDue := s.towLine.cycleStart + ms s.pollInterval }).cycleEnd

/-- A poll cycle starts now, from the first entry; with an empty poll list it completes at once (R85). -/
def State.startCycle (s : State) : State :=
  let s1 := s.withTowLine { s.towLine with
    running := true, cycleStart := s.now, complete := false, pos := 0, restartPending := false
    window := none, spent := none }
  if s1.pollList.isEmpty then s1.completeCycle else s1.sendPoll 0

/-- A node transaction begins: polling is held and its NODE ACCESS frame leaves (R97). -/
def State.beginAccess (s : State) (a : NodeAccess) : State :=
  (s.sendTow a.address 0x22
    ([byte (if a.write then 1 else 0), byte a.offset, byte a.length] ++ (if a.write then a.data else []))).withTowLine
    { s.towLine with spent := none, access := some { a with deadline := some (s.now + Config.accessLimit) } }

/-- What the line does next, with no poll in progress and no transaction in flight: a waiting transaction
(R97), a restarted cycle (R98), the next cycle when it is due, or the next entry's poll (R85). -/
def State.proceed (s : State) : State :=
  match s.towLine.access with
  | some a => s.beginAccess a
  | none =>
    if s.towLine.restartPending then s.startCycle
    else if s.towLine.complete then
      (if s.towLine.nextDue ≤ s.now then s.startCycle else s)
    else s.sendPoll s.towLine.pos

/-- A poll has ended (R85): the cycle is complete after the last entry's. `spent` is the window of a poll ended
by its reply, which stays open for stray replies until the part sends its next frame (R87). -/
def State.pollEnded (s : State) (spent : Option PollWindow) : State :=
  let s1 := s.withTowLine { s.towLine with window := none, spent := spent }
  (if s1.pollList.length ≤ s1.towLine.pos then s1.completeCycle else s1).proceed

/-- Whether a transaction is in flight (its frame has left). -/
def State.accessInFlight (s : State) : Option (NodeAccess × Moment) :=
  match s.towLine.access with
  | none => none
  | some a => a.deadline.map fun d => (a, d)

/-- A poll restart handed over (R98): remembered while a poll or a transaction is in progress, otherwise the
new cycle starts at once. -/
def State.pollRestart (s : State) : State :=
  if s.towLine.running = false then s
  else if s.towLine.window.isSome || s.accessInFlight.isSome then
    s.withTowLine { s.towLine with restartPending := true }
  else s.startCycle

/-! ## Replies and misses (R88, R90) -/

/-- The node state after a good reply whose count of good replies is now `good` (R88). -/
def TowNodeState.afterReply (x : TowNodeState) (good : Nat) (masked : Bool) : TowNodeState :=
  match x with
  | .absent => if good = 3 then (if masked then .fault else .present) else .absent
  | .silent => if good = 3 then (if masked then .fault else .present) else .silent
  | .present => if masked then .fault else .present
  | .fault => if masked then .fault else .present

/-- The node record after a good reply (R88). -/
def TowNode.good1 (now : Moment) (r : TowReply) (masked : Bool) (n : TowNode) : TowNode :=
  { n with
    reply := some r
    missed := 0
    good := satSucc 3 n.good
    lastGood := some now
    state := n.state.afterReply (satSucc 3 n.good) masked }

/-- The node record after a miss (R88). -/
def TowNode.miss1 (n : TowNode) : TowNode :=
  { n with
    good := 0
    missed := satSucc 3 n.missed
    total := satSucc 65535 n.total
    state := if satSucc 3 n.missed = 3 then .silent else n.state }

/-- The decoded tensions of a reply handed over in channel order (R90). -/
def State.handTensions (s : State) (node : Nat) (codes : Bytes) : State :=
  (codes.zipIdx).foldl (fun t p => t.couplingReading node p.2 (decodeTension p.1.toNat)) s

/-- The condition unit's part of a hand-over (R90): TOW INPUT A and B, TOW NODE SILENT and TOW NODE FAULT. -/
def State.evalTowNodes (s : State) : State := (s.evalTowInputs.evalTowSilent).evalTowFault

/-- Whether the entry at index `i` is the bow node. -/
def State.isBowNode (s : State) (i : Nat) : Bool :=
  match s.bowNode with
  | none => false
  | some (j, _) => j == i

/-- The bow angle of a good reply handed to the steering unit (R53, R90). -/
def State.handBowAngle (s : State) (i : Nat) (r : TowReply) : State :=
  if s.isBowNode i then
    match s.actuator? bowIx, r.bow with
    | some a, some angle => s.actuatorReport bowIx a angle
    | _, _ => s
  else s

/-- A good reply of the node at index `i` (R88, R90). -/
def State.goodReply (s : State) (i : Nat) (r : TowReply) : State :=
  let before := s.towNodeState i
  let s1 := s.modTowNode i (TowNode.good1 s.now r (s.masked r.condition))
  let after := s1.towNodeState i
  let s2 := s1.handBowAngle i r
  let s3 := if before = after then s2 else s2.couplingNodeChange i after r.condition
  let s4 := if after = .present then s3.handTensions i r.codes else s3
  let s5 := if before ≠ after ∧ s4.isBowNode i = true then s4.evalBow else s4
  s5.evalTowNodes

/-- A miss of the node at index `i` (R88, R90). -/
def State.towMiss (s : State) (i : Nat) : State :=
  let before := s.towNodeState i
  let s1 := s.modTowNode i TowNode.miss1
  let after := s1.towNodeState i
  if before = after then s1
  else
    let s2 := s1.couplingNodeChange i after 0
    let s3 := if s2.isBowNode i then s2.evalBow else s2
    s3.evalTowNodes

/-! ## The commands of the tow line -/

/-- The make-up entry whose window `w` is open at this moment: a reply is taken up to the moment its window
closes (R87). -/
def State.heardIn (s : State) (w : Option PollWindow) : Option (Nat × MakeUpEntry) :=
  match w with
  | none => none
  | some w => if s.now ≤ w.closeAt then (s.pollList[w.entry]?).map fun m => (w.entry, m) else none

/-- The poll in progress whose reply window is open at this moment, with its make-up entry (R87). -/
def State.openPoll (s : State) : Option (Nat × MakeUpEntry) := s.heardIn s.towLine.window

/-- The poll ended by its reply whose window is still open at this moment, the part having sent no frame since
(R87). -/
def State.spentPoll (s : State) : Option (Nat × MakeUpEntry) := s.heardIn s.towLine.spent

/-- POLL_CYCLE_START: the next cycle starts at its due moment, while the controller waits between two cycles
(R85). -/
def execPollCycleStart (e : Env) (s : State) : Host.Outcome State Fault Refusal :=
  let s1 := s.enter e
  .next (
    if s1.towLine.running && s1.towLine.complete && s1.towLine.window.isNone && s1.towLine.access.isNone then
      (s1.reach s1.towLine.nextDue).startCycle
    else s1)

/-- POLL_WINDOW_CLOSE: the reply window closes with no good reply taken; the node has missed (R86). -/
def execPollWindowClose (e : Env) (s : State) : Host.Outcome State Fault Refusal :=
  let s1 := s.enter e
  .next (match s1.towLine.window with
    | none => s1
    | some w => ((s1.reach w.closeAt).towMiss w.entry).pollEnded none)

/-- A frame discarded inside a reply window of the entry `m` (R87): wrong source, or malformed. -/
def State.countInWindow (s : State) (m : MakeUpEntry) (src : Nat) : State :=
  if src ≠ m.address then s.countTowWrongSource else s.countTowMalformed

/-- A POLL REPLY that no poll in progress takes (R87): inside the window of a poll already ended by its reply,
wrong source, malformed or stray; otherwise late. That a second reply which does not agree with its entry is malformed
and not stray, where both rows of R87's table fit, is a DESIGN CHOICE (notes/assumptions/20.md). -/
def State.missedReply (s : State) (src : Nat) (payload : Bytes) : State :=
  match s.spentPoll with
  | none => s.countTowLate
  | some (_, m) =>
    if src = m.address ∧ replyFits payload m.channels m.bow = true then s.countTowStray
    else s.countInWindow m src

/-- POLL_REPLY: a POLL REPLY frame addressed to the part is a good reply, or is discarded and counted (R87). A
reply that answers an earlier frame of the part is late: the window of its poll has ended or was abandoned (R84,
R87, R100). -/
def execPollReply (e : Env) (dst src : Nat) (payload : Bytes) (s : State) :
    Host.Outcome State Fault Refusal :=
  let s1 := s.enter e
  .next (
    if dst ≠ Config.fieldAddress then s1
    else if answersEarlier s1.sent.tow e.answers = true then s1.countTowLate
    else
      match s1.openPoll with
      | none => s1.missedReply src payload
      | some (i, m) =>
        if src ≠ m.address then s1.countTowWrongSource
        else if replyFits payload m.channels m.bow = false then s1.countTowMalformed
        else (s1.goodReply i (towReplyOf payload)).pollEnded s1.towLine.window)

/-- Whether an ACCESS ANSWER's payload answers a transaction (R97): status ACCEPTED or REFUSED and, for an
accepted READ, exactly the stated length of data. -/
def answerFits (a : NodeAccess) (b : Bytes) : Bool :=
  match b with
  | [] => false
  | st :: data => (st == 1) || (st == 0 && (a.write || data.length == a.length))

/-- The transaction ends with a reply, the hold is released, and polling resumes (R97). -/
def State.endAccess (s : State) (status : Status) (data : Bytes) : State :=
  ((s.withTowLine { s.towLine with access := none }).answerHead status data .nothing).proceed

/-- ACCESS_ANSWER: the node's answer ends the transaction, or the frame is discarded and counted (R97, R87). An
answer to an earlier frame of the part is late: its transaction has ended (R97). -/
def execAccessAnswer (e : Env) (dst src : Nat) (payload : Bytes) (s : State) :
    Host.Outcome State Fault Refusal :=
  let s1 := s.enter e
  .next (
    if dst ≠ Config.fieldAddress then s1
    else if answersEarlier s1.sent.tow e.answers = true then s1.countTowLate
    else
      match s1.openPoll with
      | some (_, m) => s1.countInWindow m src
      | none =>
        match s1.accessInFlight with
        | none =>
          match s1.spentPoll with
          | none => s1.countTowLate
          | some (_, m) => s1.countInWindow m src
        | some (a, d) =>
          if d < s1.now then s1.countTowLate
          else if src ≠ a.address then s1.countTowWrongSource
          else if answerFits a payload = false then s1.countTowMalformed
          else if payload.head? = some 0 then
            s1.endAccess .ok (if a.write then [] else payload.drop 1)
          else s1.endAccess .state [])

/-- NODE_ACCESS_TIMEOUT: 200 ms have passed with no answer (R97). -/
def execNodeAccessTimeout (e : Env) (s : State) : Host.Outcome State Fault Refusal :=
  let s1 := s.enter e
  .next (match s1.accessInFlight with
    | none => s1
    | some (_, d) => (s1.reach d).endAccess .timeout [])

/-! ## Node transactions taken up (R96) -/

/-- TOW NODE ACCESS handed over (R96): answered at once, or the transaction in flight, which begins at once
when no poll is in progress (R97). -/
def State.takeAccess (s : State) (a : NodeAccess) : State :=
  if s.makeUp?.isNone then s.answerHead .state [] .nothing
  else if (s.pollList.any fun m => m.address = a.address) = false then s.answerHead .range [] .nothing
  else if a.length = 0 ∨ 16 < a.length ∨ (a.write = true ∧ a.data.length ≠ a.length) then
    s.answerHead .range [] .nothing
  else
    let s1 := s.withTowLine { s.towLine with access := some { a with deadline := none } }
    let s2 := s1.withStore { s1.store with head := .handed }
    if s2.towLine.window.isSome then s2 else s2.proceed

/-! ## Table application and reset (R84, R100) -/

/-- The tow line controller at a make-up or coupling table application (R84): the poll in flight abandoned
and every node record ABSENT. -/
def State.resetTowNodes (s : State) : State :=
  s.withTowLine { s.towLine with
    window := none
    spent := none
    nodes := s.pollList.map fun _ => {}
    restartPending := false }

/-- A make-up or coupling table put in use (R84, R103): node records and couplings reset, the conditions of
the tow line and bow usability re-evaluated, and a new poll cycle started while the make-up table is VALID. -/
def State.applyMakeUp (s : State) : State :=
  let s1 := ((s.resetTowNodes.applyTowTables).evalTowNodes).evalBow
  if s1.makeUp?.isSome then s1.startCycle else s1

/-- The tow line controller's state after a reset, before its first cycle starts (R100). -/
def State.resetTow (s : State) : State :=
  s.withTowLine { nodes := s.pollList.map fun _ => {} }

/-- The first poll cycle after a reset, if the make-up table is VALID (R100). -/
def State.startTow (s : State) : State := if s.makeUp?.isSome then s.startCycle else s

end Sys2Proof.Machine
end

