-- ==== Sys2Proof/Machine/Fuel.lean ====
section
/-! DEFINITION. The fuel unit (chapter 7): meter accumulation, tank books, gauges and feed states, feed
ceilings, reconciliation, account saves, and its management requests. -/

namespace Sys2Proof.Machine

/-! ## Metering (R131 to R134) -/

/-- The temperature of a report entry (R133): the code's value clamped to −200..+1200, or for code 0x8000 the
last valid temperature, or 150 when none has been recorded; with the last valid temperature it leaves. -/
def takeTemp (last : Option Int) (code : Nat) : Int × Option Int :=
  if code = 0x8000 then (last.getD 150, last)
  else
    let t := max (-200) (min 1200 (signed16 code))
    (t, some t)

/-- The volume correction factor F, millionths (R133). -/
def volumeFactor (alpha : Nat) (temp : Int) : Int := 1000000 - alpha * (temp - 150)

/-- An accumulation (R134): the increment floor(A / (1000k)) and the new remainder. -/
def accumulate (k : Nat) (remainder n f : Int) : Int × Int :=
  let a := remainder + n * f
  (a / (1000 * k : Nat), a % (1000 * k : Nat))

/-- `(new − base) modulo 65 536` of two wrapping counts. -/
def countDelta (new base : Nat) : Nat := (new + 65536 - base) % 65536

/-- The book follows its formula (section 7.3). -/
def Book.refresh (b : Book) : Book :=
  { b with book := b.opening + b.receipts + b.moveIn - b.moveOut - b.consumption }

def Book.consume (x : Int) (b : Book) : Book := Book.refresh { b with consumption := b.consumption + x }
def Book.receive (x : Int) (b : Book) : Book := Book.refresh { b with receipts := b.receipts + x }
def Book.addIn (x : Int) (b : Book) : Book := Book.refresh { b with moveIn := b.moveIn + x }
def Book.addOut (x : Int) (b : Book) : Book := Book.refresh { b with moveOut := b.moveOut + x }

/-- A book opened at a value: the other fields 0, VALID (R138). -/
def Book.openAt (x : Int) : Book := Book.refresh { opening := x }

/-- A change of a tank's book. -/
def State.modBook (s : State) (i : Fin 12) (f : Book → Book) : State :=
  s.modTank i fun t => { t with book := f t.book }

/-- A change of the book of a tank index while that tank is present; a tank that is not present takes
nothing (R128). -/
def State.bookOf (s : State) (index : Nat) (f : Book → Book) : State :=
  match s.tankAt? index with
  | none => s
  | some (i, _) => s.modBook i f

/-- The feed tank's index of consumer position i + 1: the engine's in the engine table for E1 to E4, its own
entry's for G1 and G2 (R127); 0 for none. -/
def State.feedTankOf (s : State) (i : Fin 6) : Nat :=
  match ix4? (i.val + 1) with
  | some n =>
    match s.engine? n with
    | none => 0
    | some e => e.feedTank
  | none =>
    match s.consumer? i with
    | none => 0
    | some c => c.feedTank

/-- Fuel moved into consumer i + 1's account and charged to its feed tank (R134). -/
def State.charge (s : State) (i : Fin 6) (e : ConsumerEntry) (n f : Int) : State :=
  let r := accumulate e.k (s.consumerAt i).account.remainder n f
  let s1 := s.modConsumer i fun c =>
    { c with account := { c.account with total := c.account.total + r.1, remainder := r.2 } }
  if r.1 = 0 then s1 else s1.bookOf (s.feedTankOf i) (Book.consume r.1)

/-- METER FAULT (code 41): any present consumer's meter-fault flag is set (R135). -/
def State.evalMeterFault (s : State) : State :=
  s.setSource 41 ((Bank.indices 6).any fun i => (s.consumer? i).isSome && (s.consumerAt i).meterFault)

/-- The entry's counts become the baselines, its temperature is taken, and the gap count returns to 0. -/
def Consumer.rebase (m : MeterEntry) (c : Consumer) : Consumer :=
  { c with
    baseValid := true
    baseSupply := m.supply
    baseReturn := m.ret
    gap := 0
    tempCode := some m.temp
    account := { c.account with lastTemp := (takeTemp c.account.lastTemp m.temp).2 } }

/-- An interval or gap closed by estimate (R131, R132): (g + 1) × held net pulses at the held F, the
unmetered count grown by g + 1, and the meter-fault flag set. -/
def State.estimate (s : State) (i : Fin 6) (e : ConsumerEntry) (h : HeldEstimate) (g : Nat) : State :=
  let s1 := s.charge i e ((g + 1 : Nat) * h.net) h.factor
  s1.modConsumer i fun c =>
    { c with account := { c.account with unmetered := min 65535 (c.account.unmetered + g + 1) } }

/-- Whether the delta of an entry is accepted (R132). -/
def deltaAccepted (glitch g ds dr : Nat) : Bool :=
  g + 1 < 16 && ds ≤ glitch * (g + 1) && dr ≤ glitch * (g + 1)

/-- A report entry taken while the baseline is valid (R132). -/
def State.meterMeasured (s : State) (i : Fin 6) (e : ConsumerEntry) (m : MeterEntry) : State :=
  let c := s.consumerAt i
  let ds := countDelta m.supply c.baseSupply
  let dr := countDelta m.ret c.baseReturn
  let f := volumeFactor e.alpha (takeTemp c.account.lastTemp m.temp).1
  if deltaAccepted e.glitch c.gap ds dr then
    let n : Int := (ds : Int) - dr
    (s.charge i e n f).modConsumer i fun x =>
      { x.rebase m with
        held := some { net := n.tdiv ((c.gap + 1 : Nat) : Int), factor := f }
        meterFault := false }
  else
    let s1 := match c.held with
      | none => s.modConsumer i fun x =>
          { x with account := { x.account with unmetered := min 65535 (x.account.unmetered + c.gap + 1) } }
      | some h => s.estimate i e h c.gap
    s1.modConsumer i fun x => { x.rebase m with meterFault := true }

/-- A report entry taken while the baseline is invalid (R131). -/
def State.meterRebased (s : State) (i : Fin 6) (e : ConsumerEntry) (m : MeterEntry) : State :=
  let c := s.consumerAt i
  match c.held with
  | none => s.modConsumer i (Consumer.rebase m)
  | some h =>
    (s.estimate i e h c.gap).modConsumer i fun x => { x.rebase m with meterFault := true }

/-- A report entry handled for one consumer (R130). -/
def State.meterEntry (s : State) (i : Fin 6) (e : ConsumerEntry) (m : MeterEntry) : State :=
  (if (s.consumerAt i).baseValid then s.meterMeasured i e m else s.meterRebased i e m).evalMeterFault

/-- A miss for one consumer (R130): the gap count, up to 255. -/
def Consumer.miss (c : Consumer) : Consumer := { c with gap := satSucc 255 c.gap }

/-- What a hand-over does to every present consumer on a node, in position order (R130). -/
def State.onConsumersOf (s : State) (address : Nat) (f : State → Fin 6 → ConsumerEntry → State) : State :=
  (Bank.indices 6).foldl (fun t i =>
    match t.consumer? i with
    | none => t
    | some e => if e.node = address then f t i e else t) s

/-- A good meter report (R130): a report with fewer entries than a consumer's position counts as a miss for
that consumer. -/
def State.meterReport (s : State) (address : Nat) (b : Bytes) : State :=
  s.onConsumersOf address fun t i e =>
    match meterEntryOf b e.entry with
    | none => t.modConsumer i Consumer.miss
    | some m => t.meterEntry i e m

/-- A miss recorded against a meter node (R130). -/
def State.meterMiss (s : State) (address : Nat) : State :=
  s.onConsumersOf address fun t i _ => t.modConsumer i Consumer.miss

/-- A meter node becomes LOST: every present consumer on it gets an invalid baseline (R130). -/
def State.meterLost (s : State) (address : Nat) : State :=
  s.onConsumersOf address fun t i _ => t.modConsumer i fun c => { c with baseValid := false }

/-! ## Feed states and feed ceilings (R141, R142) -/

/-- A below flag against its mark and the hysteresis band (R141). With a band of 0 (a capacity below 50 L) a level equal
to the mark meets both of R141's conditions; the flag is then set: DESIGN CHOICE (notes/assumptions/22.md). -/
def belowFlag (level mark band : Nat) (flag : Bool) : Bool :=
  if level ≤ mark then true else if mark + band ≤ level then false else flag

/-- The feed state of the three flags (R141). -/
def Tank.feedState (t : Tank) : FeedState :=
  if t.emptyFlag then .empty else if t.lowLowFlag then .lowLow else if t.lowFlag then .low else .normal

/-- The flags evaluated at a level (R141). -/
def Tank.evalFeed (e : TankEntry) (level : Nat) (t : Tank) : Tank :=
  { t with
    lowFlag := belowFlag level e.low e.band t.lowFlag
    lowLowFlag := belowFlag level e.lowLow e.band t.lowLowFlag
    emptyFlag := belowFlag level e.emptyMark e.band t.emptyFlag }

/-- The feed ceiling of engine n (R142). -/
def State.cFeed (s : State) (n : Fin 4) : Nat :=
  match s.engine? n with
  | none => 1000
  | some e =>
    match s.tankAt? e.feedTank with
    | none => 1000
    | some (i, _) =>
      match (s.tankRec i).feedState with
      | .normal => 1000
      | .low => 1000
      | .lowLow => s.feedDerate
      | .empty => 0

/-- Whether a present tank that feeds a present engine has a feed state `p` accepts. -/
def State.anyFeedTank (s : State) (p : FeedState → Bool) : Bool :=
  (Bank.indices 4).any fun n =>
    match s.engine? n with
    | none => false
    | some e =>
      match s.tankAt? e.feedTank with
      | none => false
      | some (i, _) => p (s.tankRec i).feedState

/-- FEED LOW and FEED LOW-LOW (codes 38 and 39), R142. -/
def State.evalFeedLow (s : State) : State :=
  (s.setSource 38 (s.anyFeedTank fun f => f ≠ .normal)).setSource 39
    (s.anyFeedTank fun f => f = .lowLow || f = .empty)

/-- The effective ceiling of engine n: min(C_tow, C_feed, C_react) as their owners publish them now (R39). -/
def State.cEff (s : State) (n : Fin 4) : Nat := min s.coup.cTow (min (s.cFeed n) (s.cReact n))

/-! ## Reconciliation (R143) and gauges (R140) -/

/-- The reconciliation observation (R143). -/
def Tank.observe (now : Moment) (e : TankEntry) (level : Nat) (t : Tank) : Tank :=
  if ((level : Int) * 1000 - t.book.book).natAbs > e.tolerance * 1000 then
    let start := t.runStart.getD now
    { t with
      runStart := some start
      discrepancy := t.discrepancy || decide (start + Config.discrepancyTime ≤ now) }
  else { t with runStart := none, discrepancy := false }

/-- FUEL DISCREPANCY (code 40), R143. -/
def State.evalDiscrepancy (s : State) : State :=
  s.setSource 40 ((Bank.indices 12).any fun i => (s.tank? i).isSome && (s.tankRec i).discrepancy)

/-- The record after a gauge entry (R140): a level is clamped and stored; the standing becomes CURRENT unless
the node is held LOST; a failed entry makes it LOST with the level held, which ends the discrepancy run. -/
def Tank.takeGauge (now : Moment) (e : TankEntry) (nodeLost : Bool) (entry : Option Nat) (t : Tank) : Tank :=
  match entry with
  | none => { t with standing := .lost, lastWasLevel := false, runStart := none }
  | some v =>
    if v = 0xFFFFFF then { t with standing := .lost, lastWasLevel := false, runStart := none }
    else
      { t with
        level := some (min v e.capacity)
        levelAt := some now
        lastWasLevel := true
        standing := if nodeLost then .lost else .current }

/-- One tank's reading, its feed state and its reconciliation observation, in that order (R140); the
publication to the transfer controller follows it. -/
def State.gaugeTank (s : State) (i : Fin 12) (e : TankEntry) (nodeLost : Bool) (entry : Option Nat) :
    State :=
  let s1 := s.modTank i (Tank.takeGauge s.now e nodeLost entry)
  match (s1.tankRec i).standing, (s1.tankRec i).level with
  | .current, some level =>
    let s2 := (s1.modTank i (Tank.evalFeed e level)).evalFeedLow
    (s2.modTank i (Tank.observe s2.now e level)).evalDiscrepancy
  | _, _ => s1

/-- A gauge node becomes LOST: every tank on it is LOST with its level held (R140). -/
def Tank.loseGauge (t : Tank) : Tank := { t with standing := .lost, runStart := none }

/-- A gauge node's return: a LOST tank whose stored entry was a level becomes CURRENT (R140). The return is no
reading, so no feed state is evaluated, no observation made and no rule set off before the next one: DEDUCED
(notes/assumptions/10.md). -/
def Tank.returnGauge (t : Tank) : Tank :=
  if t.standing = .lost ∧ t.lastWasLevel = true then { t with standing := .current } else t

/-- What a hand-over does to every present tank on a gauge node, in tank index order (R140). -/
def State.onTanksOf (s : State) (address : Nat) (f : State → Fin 12 → TankEntry → State) : State :=
  (Bank.indices 12).foldl (fun t i =>
    match t.tank? i with
    | none => t
    | some e => if e.gaugeNode = address ∧ e.gaugeNode ≠ 0 then f t i e else t) s

/-- A gauge node's LOST or PRESENT handed over (R140). -/
def State.gaugeNodeChange (s : State) (address : Nat) (lost : Bool) : State :=
  s.onTanksOf address fun t i _ => t.modTank i (if lost then Tank.loseGauge else Tank.returnGauge)

/-! ## Account saves (R144) -/

/-- An item whose last write failed is written again, as it stands now (R187). -/
def State.writeOwed (s : State) (i : StoreItem) : State :=
  if i ∈ s.store.owed then s.writeRetained i (s.storeItem i) else s

/-- An account save (R144, R187): the fuel region, and whatever other item is owed to the retained store. -/
def State.accountSave (s : State) : State :=
  (((s.writeRetained .fuel (s.storeItem .fuel)).writeOwed .history).writeOwed .counter).writeOwed .splitMode

/-- ACCOUNT_SAVE_TIMER: the save of every 60 s (R144). -/
def execAccountSaveTimer (e : Env) (s : State) : Host.Outcome State Fault Refusal :=
  let s1 := (s.enter e).reach s.fuel.saveDue
  .next (s1.accountSave.withFuel { s1.fuel with saveDue := s.fuel.saveDue + Config.saveSpacing })

/-! ## Management requests (R137 to R139) -/

/-- A book opened afresh with its discrepancy state ended (R138). -/
def Tank.openBook (x : Int) (t : Tank) : Tank :=
  { t with book := Book.openAt x, discrepancy := false, runStart := none }

/-- BUNKER RECEIPT (R137): tank index and quantity in mL. -/
def State.bunkerReceipt (s : State) (index quantity : Nat) : State :=
  if (s.tableImage 8).isNone then s.answerHead .state [] .nothing
  else
    match s.tankAt? index with
    | none => s.answerHead .range [] .nothing
    | some (i, e) =>
      if quantity = 0 ∨ e.capacity * 1000 < quantity then s.answerHead .range [] .nothing
      else ((s.modBook i (Book.receive quantity)).accountSave).answerHead .ok [] .nothing

/-- Whether a tank index is the source or destination of a run that is not IDLE (R138, R161). -/
def State.inRun (s : State) (index : Nat) : Bool :=
  match s.transfer.state, s.transfer.run with
  | .idle, _ => false
  | _, none => false
  | _, some r => r.source = index || r.dest = index

/-- The sender's class (R1); every address counts as ENGINE ROOM while the station table is INVALID. -/
def State.classOf (s : State) (station : Nat) : StationClass :=
  match ix4? station with
  | none => .wheelhouse
  | some n => (s.stationAt n).cls

/-- The book of tank i + 1 is opened at `x`, its mark cleared, and an account save made (R138, R145). -/
def State.openBook (s : State) (i : Fin 12) (x : Int) : State :=
  ((((s.modTank i (Tank.openBook x)).evalDiscrepancy).evalAccountInvalid).accountSave).answerHead .ok []
    .nothing

/-- SET TANK BOOK (R138): tank index, choice (0 value, 1 GAUGE) and value in mL. -/
def State.setTankBook (s : State) (station index choice value : Nat) : State :=
  if s.classOf station ≠ .engineRoom then s.answerHead .rights [] .nothing
  else if (s.tableImage 8).isNone then s.answerHead .state [] .nothing
  else
    match s.tankAt? index with
    | none => s.answerHead .range [] .nothing
    | some (i, e) =>
      if s.inRun index then s.answerHead .state [] .nothing
      else if choice = 0 then
        (if e.capacity * 1000 < value then s.answerHead .range [] .nothing else s.openBook i value)
      else if choice = 1 then
        match (s.tankRec i).standing, (s.tankRec i).level with
        | .current, some level => s.openBook i (level * 1000)
        | _, _ => s.answerHead .state [] .nothing
      else s.answerHead .range [] .nothing

/-- A consumer zeroed (R139). -/
def Consumer.zero (c : Consumer) : Consumer :=
  { c with
    account := { c.account with total := 0, remainder := 0, unmetered := 0, valid := true }
    meterFault := false }

/-- Index of a consumer position 0 (E1) to 5 (G2), as ZERO CONSUMER's field gives it (section 11.3). -/
def consumerIx? (pos : Nat) : Option (Fin 6) := if pos < 6 then some (Fin.ofNat 6 pos) else none

/-- ZERO CONSUMER (R139). -/
def State.zeroConsumer (s : State) (pos : Nat) : State :=
  if (s.tableImage 8).isNone then s.answerHead .state [] .nothing
  else
    match consumerIx? pos with
    | none => s.answerHead .range [] .nothing
    | some i =>
      if (s.consumer? i).isNone then s.answerHead .range [] .nothing
      else
        ((((s.modConsumer i Consumer.zero).evalMeterFault).evalAccountInvalid).accountSave).answerHead .ok []
          .nothing

/-! ## Table 9 (R129) and resets (R145, R147) -/

/-- A consumer's meter as table 9 gives it: node and entry position, while present. -/
def meterOf (b : Option Bytes) (i : Fin 6) : Option (Nat × Nat) :=
  (b.bind fun x => presentConsumer x i).map fun e => (e.node, e.entry)

/-- A consumer at a table 9 application (R129): made not present, or given another meter. -/
def Consumer.afterTable (old new : Option (Nat × Nat)) (c : Consumer) : Consumer :=
  if old = new then c
  else { c with baseValid := false, held := none, gap := 0, meterFault := false }

/-- A tank's gauge as table 9 gives it; none for a tank that is not present or has no gauge. -/
def gaugeOf (e : Option TankEntry) : Option (Nat × Nat) :=
  match e with
  | none => none
  | some t => if t.gaugeNode = 0 then none else some (t.gaugeNode, t.gaugeEntry)

/-- A tank whose gauge is gone, or which is not present: standing NONE, no level, feed state NORMAL (R129). That the level
becomes absent also where only the gauge is removed is a DESIGN CHOICE (notes/assumptions/21.md): R129's row for that
does not name the level. -/
def Tank.noGauge (t : Tank) : Tank :=
  { t with
    standing := .none
    level := none
    levelAt := none
    lastWasLevel := false
    lowFlag := false
    lowLowFlag := false
    emptyFlag := false
    discrepancy := false
    runStart := none }

/-- A tank at a table 9 application (R129); every discrepancy run start becomes none. -/
def Tank.afterTable (old new : Option TankEntry) (t : Tank) : Tank :=
  match gaugeOf new with
  | none => t.noGauge
  | some g =>
    if gaugeOf old = some g then { t with runStart := none }
    else
      { t with
        standing := .noReading, level := none, levelAt := none, lastWasLevel := false, runStart := none }

/-- The fuel unit acts on a new table 9 (R129); `old` is the part before it was put in use. -/
def State.applyFuelTable (s old : State) : State :=
  let s1 := s.withFuel { s.fuel with
    consumers := Vector.ofFn fun i : Fin 6 =>
      (s.consumerAt i).afterTable (meterOf (old.tableImage 8) i) (meterOf (s.tableImage 8) i)
    tanks := Vector.ofFn fun i : Fin 12 => (s.tankRec i).afterTable (old.tank? i) (s.tank? i) }
  ((s1.evalFeedLow).evalDiscrepancy).evalMeterFault

/-- A consumer's working state after either reset, on account `a` (R147). The temperature code of its last report
entry, which R147 does not list, becomes absent, and the counts of the baselines, which it calls invalid, become 0:
DESIGN CHOICE (notes/assumptions/21.md). -/
def Consumer.atReset (a : Account) : Consumer := { account := a }

/-- A tank after a control restart (R147): NO READING for a gauge, the level kept for READ STATE, the feed
state kept, the discrepancy state ended. -/
def Tank.atRestart (e : Option TankEntry) (t : Tank) : Tank :=
  { t with
    standing := (match gaugeOf e with
      | none => .none
      | some _ => .noReading)
    discrepancy := false
    runStart := none
    lastWasLevel := false }

/-- A tank after a cold start, on book `b` (R147). -/
def Tank.atColdStart (e : Option TankEntry) (b : Book) : Tank :=
  { book := b
    standing := (match gaugeOf e with
      | none => .none
      | some _ => .noReading) }

/-- The fuel unit after a control restart (R147). -/
def State.restartFuel (s : State) : State :=
  s.withFuel
    { consumers := s.fuel.consumers.map fun c => Consumer.atReset c.account
      tanks := Vector.ofFn fun i : Fin 12 => Tank.atRestart (s.tank? i) (s.tankRec i)
      saveDue := s.now + Config.saveSpacing }

/-- An account restored, or re-opened with its mark when it contains an uncorrectable word (R145). -/
def restoreAccount (damaged : Bool) (a : Account) : Account :=
  if damaged then { valid := false } else a

/-- A book restored, or opened at 0 with its mark (R145). -/
def restoreBook (damaged : Bool) (b : Book) : Book := if damaged then { valid := false } else b

/-- The region a cold start restores: a region never written is restored as empty (R189). -/
def State.storedFuel (s : State) : FuelRegion :=
  match s.store.retained.fuel with
  | none => { accounts := Vector.replicate 6 {}, books := Vector.replicate 12 {} }
  | some r => r

/-- The fuel unit after a cold start (R145, R147), with the consumer positions and tank indexes that contain
an uncorrectable word; a re-opening makes an account save. A fuel region that has never been written is
restored as empty, not as damaged (R189). -/
def State.restoreFuel (s : State) (foundAccounts foundBooks : List Nat) : State :=
  let r := s.storedFuel
  let accounts := if s.store.retained.fuel.isSome then foundAccounts else []
  let books := if s.store.retained.fuel.isSome then foundBooks else []
  let s1 := s.withFuel
    { consumers := Vector.ofFn fun i : Fin 6 =>
        Consumer.atReset (restoreAccount (decide (i.val + 1 ∈ accounts)) r.accounts[i.val])
      tanks := Vector.ofFn fun i : Fin 12 =>
        Tank.atColdStart (s.tank? i) (restoreBook (decide (i.val + 1 ∈ books)) r.books[i.val])
      saveDue := s.now + Config.saveSpacing }
  if accounts.isEmpty && books.isEmpty then s1 else s1.accountSave

end Sys2Proof.Machine
end

