-- ==== Sys2Proof/Machine/Transfer.lean ====
section
/-! DEFINITION. The transfer controller (chapter 8): the pump order and pump meter, starts, end tests, the
trailer, run ends, auto-refill rules, and its management requests; with the gauge readings that set the
rules off (R140, R159). -/

namespace Sys2Proof.Machine

/-! ## The pump order (R150) -/

/-- The pump order: run or stop, source valve, destination valve (0 closed). -/
structure PumpOrder where
  run : Bool
  source : Nat
  dest : Nat
  deriving DecidableEq, Repr

def TransferUnit.order (t : TransferUnit) : PumpOrder :=
  match t.state, t.run with
  | .idle, _ => { run := false, source := 0, dest := 0 }
  | _, none => { run := false, source := 0, dest := 0 }
  | .trailer, some r => { run := false, source := r.source, dest := r.dest }
  | .starting, some r => { run := true, source := r.source, dest := r.dest }
  | .running, some r => { run := true, source := r.source, dest := r.dest }

/-- Whether the pump node is PRESENT (R150); it counts as LOST while there is no pump node. -/
def State.pumpPresent (s : State) : Bool :=
  match s.pumpNode with
  | none => false
  | some a => s.machStateOf a = .present

/-! ## Gauge readings of a tank index (R140, R154) -/

/-- The level of a tank index as the fuel unit publishes it: the level stored last. Between a gauge node's return and
its next reading that is the level stored while the node was LOST: DESIGN CHOICE (notes/assumptions/21.md). -/
def State.levelOf (s : State) (index : Nat) : Nat :=
  match ix12? index with
  | none => 0
  | some i => ((s.tankRec i).level).getD 0

/-- Whether a tank index names a present tank whose gauge standing is CURRENT. -/
def State.gaugeCurrent (s : State) (index : Nat) : Bool :=
  match s.tankAt? index with
  | none => false
  | some (i, _) => (s.tankRec i).standing = .current

/-- The source of TRANSFER FAULT (R158). -/
def State.transferFault (s : State) : Bool := s.sourceOf 42

/-! ## Starts (R152, R160) -/

/-- The destination's free space, litres (R152). A level kept above a capacity that a table 9 load has lowered leaves a
free space of 0, so that the start is answered RANGE: DESIGN CHOICE (notes/assumptions/21.md). -/
def State.freeSpace (s : State) (dest : Nat) : Nat :=
  match s.tankAt? dest with
  | none => 0
  | some (_, e) => e.capacity - s.levelOf dest

/-- Tests 2 to 4 of R152; `none` when every test passes. -/
def State.startRefusal (s : State) (source dest target : Nat) : Option Status :=
  if (s.permissionPairs.any fun p => p = (source, dest)) = false then some .permission
  else if s.gaugeCurrent source = false ∨ s.gaugeCurrent dest = false ∨ s.pumpPresent = false then
    some .state
  else if target = 0 ∨ 1000000 < target ∨ s.freeSpace dest = 0 then some .range
  else none

/-- The acceptance of a start (R152): the run counter advances and is written to the retained store, the run
record is made, the pump remainder becomes 0, and the start confirm timer starts at 5 s. -/
def State.acceptRun (s : State) (source dest target : Nat) (origin : Option Nat) : State :=
  let n := (s.transfer.counter + 1) % 65536
  let free := s.freeSpace dest
  let s1 := s.withTransfer { s.transfer with
    counter := n
    state := .starting
    run := some
      { number := n, source := source, dest := dest, target := min target free
        clamped := decide (free < target), origin := origin, started := s.now }
    pump := { s.transfer.pump with remainder := 0 }
    confirmTimer := some (s.now + Config.startConfirmTime) }
  s1.writeRetained .counter (s1.storeItem .counter)

/-- An auto start for rule r (R160): its refusal, or the accepted run. -/
def State.autoStart (s : State) (r : Fin 4) (rule : RefillRule) : State :=
  match s.tankAt? rule.dayTank with
  | none => s.modRule r fun x => { x with waiting := false, lastRefusal := some .state }
  | some (_, e) =>
    match s.startRefusal rule.source rule.dayTank (e.high - s.levelOf rule.dayTank) with
    | some st => s.modRule r fun x => { x with waiting := false, lastRefusal := some st }
    | none =>
      (s.acceptRun rule.source rule.dayTank (e.high - s.levelOf rule.dayTank)
        (some (r.val + 1))).modRule r fun x => { x with waiting := false, lastRefusal := none }

/-! ## Run ends (R157) -/

/-- Whether a waiting rule still holds (R160). -/
def State.ruleHolds (s : State) (rule : RefillRule) : Bool :=
  match s.tankAt? rule.dayTank with
  | none => false
  | some (i, e) =>
    e.role = roleDay && (s.tankRec i).standing = .current && decide (s.levelOf rule.dayTank ≤ e.low)

/-- One waiting rule evaluated while no run has started (R160). -/
def State.waitingRule (s : State) (r : Fin 4) : State :=
  if s.transfer.state = .idle ∧ (s.transfer.rules[r.val]).waiting = true then
    match s.refillRule? r with
    | none => s.modRule r fun x => { x with waiting := false }
    | some rule =>
      if s.ruleHolds rule then s.autoStart r rule else s.modRule r fun x => { x with waiting := false }
  else s

/-- The evaluation of the waiting rules at a run end, in rule order, while TRANSFER FAULT is clear (R160). -/
def State.evalWaiting (s : State) : State :=
  if s.transferFault then s else (Bank.indices 4).foldl (fun t r => t.waitingRule r) s

/-- The completed record of a run (R157 step 1). -/
def Run.close (now : Moment) (cause : EndCause) (incomplete : Bool) (r : Run) : Run :=
  { r with
    cause := some cause
    incomplete := incomplete
    duration := some (min 65535 ((now - r.started) / 100000)) }

/-- Steps 1, 2, 4 and 5 of R157, with step 3 where the cause asks for it: the record at the front of the
history, the run state IDLE, an account save and a write of the history. The zero count published after the end
becomes 0, and a start confirm timer or a trailer timer that still runs is stopped; R157 says nothing of either:
DESIGN CHOICE (notes/assumptions/21.md). -/
def State.closeRun (s : State) (cause : EndCause) (incomplete : Bool) : State :=
  match s.transfer.run with
  | none => s
  | some r =>
    let history := (r.close s.now cause incomplete :: s.transfer.history).take 8
    let s1 :=
      if cause = .meterFault ∨ cause = .pumpFault then s.setSource 42 true else s
    let s2 := s1.withTransfer { s1.transfer with
      history := history, state := .idle, run := none, confirmTimer := none, trailerTimer := none
      zeroCount := 0 }
    s2.accountSave.writeRetained .history (s2.storeItem .history)

/-- A run end (R157). -/
def State.endRun (s : State) (cause : EndCause) (incomplete : Bool) : State :=
  (s.closeRun cause incomplete).evalWaiting

/-- The trailer ends with the cause the run took (R157). -/
def State.endTrailer (s : State) (incomplete : Bool) : State :=
  match s.transfer.run with
  | none => s
  | some r => s.endRun (r.cause.getD .stop) incomplete

/-- A run takes its end cause and enters TRAILER (R155). A start confirm timer that still runs is stopped with
STARTING, of which the manual says nothing: DESIGN CHOICE (notes/assumptions/21.md). -/
def State.enterTrailer (s : State) (cause : EndCause) : State :=
  s.withTransfer { s.transfer with
    state := .trailer
    run := s.transfer.run.map fun r => { r with cause := some cause }
    confirmTimer := none
    trailerTimer := some (s.now + Config.trailerTime)
    zeroCount := 0 }

/-! ## The pump meter (R151) -/

/-- What the meter found in a pump report. -/
inductive MeterFinding where
  | first
  | accepted (delta : Nat)
  | rejected
  deriving DecidableEq, Repr

/-- The finding of the meter on a report (R151). -/
def PumpMeter.find (glitch : Nat) (p : PumpMeter) (count : Nat) : MeterFinding :=
  match p.baseline with
  | none => .first
  | some b =>
    let d := countDelta count b
    if p.gap + 1 < 16 ∧ d ≤ glitch * (p.gap + 1) then .accepted d else .rejected

/-- An increment booked into the run and both tanks (R151, R136); an increment of 0 is not handed on. -/
def State.bookIncrement (s : State) (inc : Int) : State :=
  match s.transfer.run with
  | none => s
  | some r =>
    let s1 := s.withTransfer { s.transfer with
      run := some { r with
        moved := r.moved + inc
        trailer := if s.transfer.state = .trailer then r.trailer + inc else r.trailer } }
    if inc = 0 then s1 else (s1.bookOf r.dest (Book.addIn inc)).bookOf r.source (Book.addOut inc)

/-- The pump constants in use (R151). While table 10 is INVALID they are taken as 0, so that the glitch limit is 0 and
any nonzero delta is rejected: DESIGN CHOICE (notes/assumptions/21.md). -/
def State.pumpK (s : State) : PumpConstants := (s.pumpConstants?).getD { k := 0, alpha := 0, glitch := 0 }

/-- A good pump report taken by the meter (R151): the finding, and the state after it. -/
def State.pumpMeter (s : State) (p : PumpReport) : MeterFinding × State :=
  let k := s.pumpK
  let m := s.transfer.pump
  let found := m.find k.glitch p.count
  let temp := takeTemp m.lastTemp p.temp
  let rebased := { m with baseline := some p.count, gap := 0, lastTemp := temp.2 }
  match found with
  | .accepted d =>
    if s.transfer.state = .idle then
      (found, s.withTransfer { s.transfer with
        pump := rebased, idleCount := min 65535 (s.transfer.idleCount + d) })
    else
      let r := accumulate k.k m.remainder d (volumeFactor k.alpha temp.1)
      (found, (s.withTransfer { s.transfer with pump := { rebased with remainder := r.2 } }).bookIncrement r.1)
  | _ => (found, s.withTransfer { s.transfer with pump := rebased })

/-! ## Reports, misses and node changes (R153, R154, R157) -/

/-- The end cause R154's tests find in a report, if any; the meter's finding is of this report. -/
def State.endCause (s : State) (found : MeterFinding) (p : PumpReport) (r : Run) : Option EndCause :=
  if found = .rejected then some .meterFault
  else if p.fault = true ∨ p.running = false then some .pumpFault
  else if (r.target : Int) * 1000 ≤ r.moved then some .target
  else if (s.tankAt? r.dest).any (fun x => x.2.high ≤ s.levelOf r.dest) then some .destinationHigh
  else if (s.tankAt? r.source).any (fun x => s.levelOf r.source ≤ x.2.low) then some .sourceLow
  else none

/-- A report in STARTING (R153). -/
def State.startingReport (s : State) (found : MeterFinding) (p : PumpReport) : State :=
  if found = .rejected then s.enterTrailer .meterFault
  else if p.fault then s.endRun .pumpFault false
  else if p.running then s.withTransfer { s.transfer with state := .running, confirmTimer := none }
  else s

/-- A report in RUNNING (R154). -/
def State.runningReport (s : State) (found : MeterFinding) (p : PumpReport) : State :=
  match s.transfer.run with
  | none => s
  | some r =>
    match s.endCause found p r with
    | none => s
    | some .pumpFault => s.endRun .pumpFault true
    | some c => s.enterTrailer c

/-- A report in TRAILER (R157). -/
def State.trailerReport (s : State) (found : MeterFinding) : State :=
  match found with
  | .rejected => s.endTrailer true
  | .first => s
  | .accepted d =>
    if d = 0 then
      let s1 := s.withTransfer { s.transfer with zeroCount := s.transfer.zeroCount + 1 }
      if 2 ≤ s1.transfer.zeroCount then s1.endTrailer false else s1
    else s.withTransfer { s.transfer with zeroCount := 0 }

/-- A good pump report handed over: first the meter, then the tests of the run state (R151, R153, R154,
R157). -/
def State.pumpReport (s : State) (p : PumpReport) : State :=
  let r := s.pumpMeter p
  match s.transfer.state with
  | .idle => r.2
  | .starting => r.2.startingReport r.1 p
  | .running => r.2.runningReport r.1 p
  | .trailer => r.2.trailerReport r.1

/-- A miss of the pump node (R151, R157). -/
def State.pumpMiss (s : State) : State :=
  s.withTransfer { s.transfer with
    pump := { s.transfer.pump with gap := satSucc 255 s.transfer.pump.gap }
    zeroCount := if s.transfer.state = .trailer then 0 else s.transfer.zeroCount }

/-- The pump node becomes LOST (R151, R153, R154, R157). -/
def State.pumpLost (s : State) : State :=
  let s1 := s.withTransfer { s.transfer with pump := { s.transfer.pump with baseline := none } }
  match s1.transfer.state with
  | .idle => s1
  | .starting => s1.endRun .pumpFault false
  | .running => s1.endRun .pumpFault true
  | .trailer => s1.endTrailer true

/-! ## Auto-refill rules at a gauge reading (R159) -/

/-- A firing rule (R159): an auto start while IDLE and TRANSFER FAULT is clear, otherwise it waits. -/
def State.fireRule (s : State) (r : Fin 4) (rule : RefillRule) : State :=
  if s.transfer.state = .idle ∧ s.transferFault = false then s.autoStart r rule
  else s.modRule r fun x => { x with waiting := true }

/-- Rule r examined at a reading of tank index `index` with entry `e` and level `level` (R159). With a band of 0 (a
capacity below 50 L) a level equal to the low mark meets the conditions of setting and of clearing the latch: with the
latch clear the rule sets it, fires and leaves it set, and with the latch set it clears it: DESIGN CHOICE
(notes/assumptions/22.md). A rule whose day tank is not a present tank of role DAY has its latch cleared at the tank's
next CURRENT reading and at no other moment: a tank that is not present has no reading, so the latch stands while it
is not present and after it is present again, until a reading of it clears it, as does that of a tank whose role has
changed: DESIGN CHOICE (notes/assumptions/22.md). -/
def State.examineRule (s : State) (index : Nat) (e : TankEntry) (level : Nat) (r : Fin 4) : State :=
  match s.refillRule? r with
  | none => s
  | some rule =>
    if rule.dayTank ≠ index then s
    else if e.role ≠ roleDay then s.modRule r fun x => { x with latch := false }
    else if level ≤ e.low ∧ (s.transfer.rules[r.val]).latch = false then
      (s.modRule r fun x => { x with latch := true }).fireRule r rule
    else if e.low + e.band ≤ level then s.modRule r fun x => { x with latch := false }
    else s

/-- The publication of tank i + 1's reading to the transfer controller: the rules it sets off, in rule order
(R159). -/
def State.publishReading (s : State) (i : Fin 12) (e : TankEntry) : State :=
  match (s.tankRec i).standing, (s.tankRec i).level with
  | .current, some level => (Bank.indices 4).foldl (fun t r => t.examineRule (i.val + 1) e level r) s
  | _, _ => s

/-- A good gauge report (R140): each tank of the node is completed, its rules included, before the next. A
report with fewer entries than a tank's position acts as a failed entry. -/
def State.gaugeReport (s : State) (address : Nat) (b : Bytes) : State :=
  let lost := decide (s.machStateOf address = .lost)
  s.onTanksOf address fun t i e => (t.gaugeTank i e lost (gaugeEntryOf b e.gaugeEntry)).publishReading i e

/-! ## The controller's timers and requests (R152, R153, R156, R157) -/

/-- START_CONFIRM_TIMER_EXPIRY: the run ends with cause PUMP FAULT, without a trailer (R153). -/
def execStartConfirmTimerExpiry (e : Env) (s : State) : Host.Outcome State Fault Refusal :=
  let s1 := s.enter e
  .next (match s1.transfer.state, s1.transfer.confirmTimer with
    | .starting, some t => (s1.reach t).endRun .pumpFault false
    | _, _ => s1)

/-- TRAILER_TIMER_EXPIRY: the trailer ends with trailer incomplete clear (R157). -/
def execTrailerTimerExpiry (e : Env) (s : State) : Host.Outcome State Fault Refusal :=
  let s1 := s.enter e
  .next (match s1.transfer.state, s1.transfer.trailerTimer with
    | .trailer, some t => (s1.reach t).endTrailer false
    | _, _ => s1)

/-- START TRANSFER (R152). -/
def State.startTransfer (s : State) (source dest target : Nat) : State :=
  if s.transfer.state ≠ .idle then s.answerHead .busy [] .nothing
  else
    match s.startRefusal source dest target with
    | some st => s.answerHead st [] .nothing
    | none =>
      let s1 := (s.acceptRun source dest target none).setSource 42 false
      s1.answerHead .ok (beBytes 2 s1.transfer.counter) .nothing

/-- Whether a run can be ended by an order (R156). -/
def RunState.stoppable : RunState → Bool
  | .starting => true
  | .running => true
  | _ => false

/-- ABORT TRANSFER (R156). -/
def State.abortTransfer (s : State) : State :=
  if s.transfer.state.stoppable then (s.enterTrailer .abort).answerHead .ok [] .nothing
  else s.answerHead .state [] .nothing

/-! ## Table 10 and resets (R148, R162) -/

/-- The transfer controller acts on a new table 10 (R148): latches and waiting flags cleared. -/
def State.applyTransferTable (s : State) : State :=
  s.withTransfer { s.transfer with
    rules := s.transfer.rules.map fun x => { x with latch := false, waiting := false } }

/-- The transfer controller after a control restart (R162): a run not IDLE first ends with cause RESTART. A run already
in TRAILER ends so too, though R155 lets nothing taken there change the cause: R162, the rule of the restart, is
followed: DEDUCED (notes/assumptions/10.md). -/
def State.restartTransfer (s : State) : State :=
  let s1 := if s.transfer.state = .idle then s else s.closeRun .restart true
  s1.withTransfer
    { history := s1.transfer.history
      counter := s1.transfer.counter
      pump := { lastTemp := s1.transfer.pump.lastTemp }
      idleCount := s1.transfer.idleCount }

/-- The restored history: a record that contains an uncorrectable word is dropped, the others keep their
order (R162). -/
def restoreHistory (damaged : List Nat) (h : List Run) : List Run :=
  (h.zipIdx.filter fun p => !decide (p.2 + 1 ∈ damaged)).map (·.1)

/-- The run counter a cold start restores (R162): as stored, 0 where none has ever been written (R189), and
taken from the restored history where its word cannot be corrected (R186). -/
def restoredCounter (damaged : Bool) (history : List Run) (stored : Option Nat) : Nat :=
  match stored with
  | none => 0
  | some n =>
    if damaged then
      match history with
      | [] => 0
      | r :: _ => r.number
    else n

/-- The transfer controller after a cold start (R162, R186, R189). -/
def State.restoreTransfer (s : State) (damaged : List Nat) (counterDamaged : Bool) : State :=
  let history := restoreHistory damaged (s.store.retained.history.getD [])
  let counter := restoredCounter counterDamaged history s.store.retained.counter
  s.withTransfer { history := history, counter := counter }

end Sys2Proof.Machine
end

