-- ==== Sys2Proof/Machine/Authority.lean ====
section
/-! DEFINITION. The station unit (chapter 1): helm frames and presence, events, command authority, values in
use, its timers, its conditions, and the station table; with the split events of chapter 6 that it hands to
the coupling supervisor. -/

namespace Sys2Proof.Machine

/-! ## Small updates of the authority state -/

/-- A station's last event result (section 1.2.2). -/
def State.setResult (s : State) (n : Fin 4) (r : EventResult) : State :=
  s.modStation n fun x => { x with result := r }

/-- Who holds command authority. -/
def State.setHolder (s : State) (h : Option (Fin 4)) : State := s.withStation { s.station with holder := h }

/-- The pending request and its transfer timer. -/
def State.setRequest (s : State) (r : Option (Fin 4)) (timer : Option Moment) : State :=
  s.withStation { s.station with requester := r, transferTimer := timer }

/-- The orphan timer. -/
def State.setOrphan (s : State) (timer : Option Moment) : State :=
  s.withStation { s.station with orphanTimer := timer }

/-- Condition LEVER FAULT (code 6): any channel is in lever fault (R16). -/
def State.evalLeverFault (s : State) : State := s.setSource 6 (s.station.leverFault.any id)

/-! ## Values in use (section 1.4) -/

/-- Every invalid timer stops and every channel leaves lever fault (R16). -/
def State.clearLevers (s : State) : State :=
  s.withStation { s.station with
    invalidTimer := Vector.replicate 4 none, leverFault := Vector.replicate 4 false }

/-- The values in use with a frame of the holder applied (R15). -/
def ValuesInUse.apply (v : ValuesInUse) (f : HelmFrame) : ValuesInUse where
  levers := Vector.ofFn fun c : Fin 4 => if f.valid[c.val] then clampTo 1000 f.levers[c.val] else v.levers[c.val]
  steering := clampTo 450 f.steering
  flanking := clampTo 450 f.flanking
  aux := f.aux

/-- A channel's invalid timer after a frame of the holder (R16). -/
def invalidAfter (now : Moment) (valid fault : Bool) (timer : Option Moment) : Option Moment :=
  if valid then none
  else
    match timer with
    | some t => some t
    | none => if fault then none else some (now + Config.leverInvalidTime)

/-- A frame of the holder taken into the values in use (R15, R16). -/
def State.takeValues (s : State) (f : HelmFrame) : State :=
  (s.withStation { s.station with
    inUse := s.station.inUse.apply f
    invalidTimer := Vector.ofFn fun c : Fin 4 =>
      invalidAfter s.now f.valid[c.val] s.station.leverFault[c.val] s.station.invalidTimer[c.val]
    leverFault := Vector.ofFn fun c : Fin 4 => !f.valid[c.val] && s.station.leverFault[c.val] }).evalLeverFault

/-- The values in use fall to 0 with every timer stopped and no lever fault (section 1.4, R16). -/
def State.zeroValues (s : State) : State :=
  ((s.withStation { s.station with inUse := {} }).clearLevers).evalLeverFault

/-! ## Command authority (section 1.3) -/

/-- The match test of a station on its last valid helm frame (R5). -/
def State.matchTest (s : State) (n : Fin 4) : Bool :=
  match (s.stationAt n).frame with
  | none => false
  | some f =>
    ((Bank.indices 4).all fun c =>
      f.valid[c.val] && decide ((clampTo 1000 f.levers[c.val] - s.station.inUse.levers[c.val]).natAbs ≤ 50))
      && decide ((clampTo 450 f.steering - s.station.inUse.steering).natAbs ≤ 50)

/-- The last valid helm frame of a station applied to the values in use (R15). -/
def State.applyLastFrame (s : State) (n : Fin 4) : State :=
  match (s.stationAt n).frame with
  | none => s.evalLeverFault
  | some f => s.takeValues f

/-- A station becomes holder, by grant or by SEIZE (R6 to R8, R12, R13): no request is pending, both timers
stop, the values in use come from its last frame, HOLDER LOST and every gear fault clear (R37), and its
result is ACCEPTED. -/
def State.becomeHolder (s : State) (n : Fin 4) : State :=
  let s1 := ((s.setHolder (some n)).setRequest none none).setOrphan none
  let s2 := ((s1.clearLevers).applyLastFrame n).setSource 5 false
  (s2.clearAllGearFaults).setResult n .accepted

/-- TAKE (R6, R7). -/
def State.takeCommand (s : State) (n : Fin 4) : State :=
  match s.station.holder, s.station.requester with
  | none, none => if s.matchTest n then s.becomeHolder n else s.setResult n .mismatch
  | none, some r =>
    if r = n then (if s.matchTest n then s.becomeHolder n else s.setResult n .mismatch)
    else s.setResult n .busy
  | some h, none =>
    if h = n then s.setResult n .state
    else (s.setRequest (some n) (some (s.now + Config.transferTime))).setResult n .pending
  | some h, some r =>
    if h = n then s.setResult n .state
    else if r = n then s.setResult n .pending
    else s.setResult n .busy

/-- Every lever in use lies within its channel's dead band (R9). -/
def State.leversInDeadBand (s : State) : Bool :=
  (Bank.indices 4).all fun c => decide ((s.station.inUse.levers[c.val]).natAbs ≤ s.deadBand c)

/-- RELEASE (R8, R9). -/
def State.releaseCommand (s : State) (n : Fin 4) : State :=
  if s.station.holder = some n then
    match s.station.requester with
    | some r =>
      if s.matchTest r then (s.becomeHolder r).setResult n .accepted
      else (s.setResult n .mismatch).setResult r .mismatch
    | none =>
      if s.leversInDeadBand then ((s.setHolder none).zeroValues).setResult n .accepted
      else s.setResult n .state
  else s.setResult n .notHolder

/-- REFUSE (R10). -/
def State.refuseRequest (s : State) (n : Fin 4) : State :=
  if s.station.holder = some n then
    match s.station.requester with
    | some r => ((s.setRequest none none).setResult r .refused).setResult n .accepted
    | none => s.setResult n .state
  else s.setResult n .notHolder

/-- A pending request of another station is ended by a SEIZE (R12). -/
def State.seizeRequest (s : State) (n : Fin 4) : State :=
  match s.station.requester with
  | none => s
  | some r => if r = n then s.setRequest none none else (s.setRequest none none).setResult r .seized

/-- A holder other than the seizer loses command to a SEIZE (R12). -/
def State.seizeHolder (s : State) : State :=
  match s.station.holder with
  | none => s
  | some h => s.setResult h .seized

/-- SEIZE (R12). From the holder itself its only effect is to end a pending request. -/
def State.seizeCommand (s : State) (n : Fin 4) : State :=
  if (s.stationAt n).cls = .engineRoom then
    if s.station.holder = some n then (s.seizeRequest n).setResult n .accepted
    else ((s.seizeRequest n).seizeHolder).becomeHolder n
  else s.setResult n .class

/-- The pending request ends with TIMEOUT for its requester (R11, R14). -/
def State.timeOutRequest (s : State) : State :=
  match s.station.requester with
  | none => s
  | some r => (s.setRequest none none).setResult r .timeout

/-- The holder is lost (R13, R16): orphan hold begins, the values in use are frozen, the invalid timers stop
with lever fault held, and HOLDER LOST becomes active. -/
def State.loseHolder (s : State) : State :=
  let s1 := s.withStation { s.station with
    holder := none
    orphanTimer := some (s.now + Config.orphanTime)
    invalidTimer := Vector.replicate 4 none }
  s1.setSource 5 true

/-! ## Split events (R118 to R123) -/

/-- A change of split mode that the coupling supervisor accepts or answers STATE. -/
def State.splitMakeUpReady (s : State) : Bool :=
  s.makeUp?.isSome && s.pollList.any (·.cutB) && s.couplingTable?.isSome && s.couplingEntries.any (·.split)

/-- Every split coupling record is MADE or SLACK (R119). -/
def State.splitsHeld (s : State) : Bool :=
  (s.coup.records.zip s.couplingEntries).all fun p =>
    !p.2.split || decide (p.1.state = .made) || decide (p.1.state = .slack)

/-- SPLIT handed over (R119): the answer and the state. -/
def State.takeSplit (s : State) : EventResult × State :=
  if s.coup.mode = .normal ∧ s.splitMakeUpReady = true ∧ s.splitsHeld = true then
    (.accepted, ((s.setSplitMode .splitting .open none).pollRestart).testSplit)
  else (.state, s)

/-- ABORT SPLIT handed over (R120). -/
def State.takeAbortSplit (s : State) : EventResult × State :=
  if s.coup.mode = .splitting then (.accepted, s.setSplitMode .normal .unmake none) else (.state, s)

/-- RECOUPLE handed over (R121): the rejoin timer starts now. -/
def State.takeRecouple (s : State) : EventResult × State :=
  if s.coup.mode = .split then
    (.accepted, ((s.setSplitMode .rejoining .unmake (some s.now)).pollRestart).testRejoin)
  else (.state, s)

/-- ABORT REJOIN handed over (R123). -/
def State.takeAbortRejoin (s : State) : EventResult × State :=
  if s.coup.mode = .rejoining then (.accepted, s.setSplitMode .split .open none) else (.state, s)

/-! ## Events (R4, R18) -/

/-- A holder-only event: handed on when the sender is the holder, otherwise answered NOT HOLDER (R18). -/
def State.holderOnly (s : State) (n : Fin 4) (f : State → EventResult × State) : State :=
  if s.station.holder = some n then ((f s).2).setResult n (f s).1 else s.setResult n .notHolder

/-- TRANSFER STOP handed over (R156). -/
def State.takeTransferStop (s : State) : EventResult × State :=
  if s.transfer.state.stoppable then (.accepted, s.enterTrailer .stop) else (.state, s)

/-- An event acted on (R4, R18). -/
def State.actOn (s : State) (n : Fin 4) (k : EventKind) : State :=
  match k with
  | .none => s
  | .take => s.takeCommand n
  | .release => s.releaseCommand n
  | .refuse => s.refuseRequest n
  | .seize => s.seizeCommand n
  | .ack => s.ackHighest.setResult n .accepted
  | .split => s.holderOnly n State.takeSplit
  | .abortSplit => s.holderOnly n State.takeAbortSplit
  | .recouple => s.holderOnly n State.takeRecouple
  | .abortRejoin => s.holderOnly n State.takeAbortRejoin
  | .transferStop => (s.takeTransferStop).2.setResult n (s.takeTransferStop).1
  | .syncOn c => s.holderOnly n fun t => (.accepted, t.armSync c)
  | .syncOff c => s.holderOnly n fun t => (.accepted, t.disarmSync c)
  | .unknown => s.setResult n .state

/-- An event taken from a PRESENT station whose baseline differs from its count: the baseline becomes the
count, and the event is acted on once. Otherwise nothing is taken (R4). -/
def State.offerEvent (s : State) (n : Fin 4) (count : Nat) (k : EventKind) : State :=
  if (s.stationAt n).presence = .present ∧ (s.stationAt n).baseline ≠ some count then
    (s.modStation n fun x => { x with baseline := some count }).actOn n k
  else s

/-- An event of the table of operations taken on its own: the sender's address and the event count as its
frame carries them. -/
def State.eventFrom (s : State) (station count : Nat) (k : EventKind) : State :=
  match ix4? station with
  | none => s
  | some n => s.offerEvent n (count % 256) k

/-! ## Helm frames (R2, R3, R4) -/

/-- A station record that a valid helm frame reaches (R2, R3). -/
def Station.hear (now : Moment) (f : HelmFrame) (x : Station) : Station :=
  let y := { x with frame := some f, good := satSucc 2 x.good, silence := some (now + Config.silenceTime) }
  if x.presence ≠ .present ∧ y.good = 2 then { y with presence := .present, baseline := some f.count } else y

/-- A valid helm frame of station n + 1 (R2 to R4, R15). -/
def State.hearHelm (s : State) (n : Fin 4) (f : HelmFrame) : State :=
  let was := (s.stationAt n).presence
  let s1 := s.modStation n (Station.hear s.now f)
  let s2 := if was = .silent ∧ (s1.stationAt n).presence = .present then s1.setSource (1 + n.val) false else s1
  let s3 := if s2.station.holder = some n then s2.takeValues f else s2
  s3.offerEvent n f.count (eventKindOf f.code)

/-- HELM_FRAME (R2, R192). -/
def execHelmFrame (e : Env) (dst src : Nat) (payload : Bytes) (s : State) :
    Host.Outcome State Fault Refusal :=
  let s1 := s.enter e
  .next (
    if dst ≠ s1.ownAddress then s1
    else
      match s1.fittedStation src, helmFrameOf payload with
      | some n, some f => (s1.countStationGood).hearHelm n f
      | _, _ => s1.countStationDiscarded)

/-! ## The events of the table (section 1.2.1) -/

/-- NONE (R4): code NONE moves the baseline, an unknown code also writes STATE; a code of another event is no
event of this row. -/
def execNoneEvent (e : Env) (station count code : Nat) (s : State) : Host.Outcome State Fault Refusal :=
  .next (match eventKindOf code with
    | .none => (s.enter e).eventFrom station count .none
    | .unknown => (s.enter e).eventFrom station count .unknown
    | _ => s.enter e)

/-- TAKE (R6, R7). -/
def execTake (e : Env) (station count : Nat) (s : State) : Host.Outcome State Fault Refusal :=
  .next ((s.enter e).eventFrom station count .take)

/-- RELEASE (R8, R9). -/
def execRelease (e : Env) (station count : Nat) (s : State) : Host.Outcome State Fault Refusal :=
  .next ((s.enter e).eventFrom station count .release)

/-- REFUSE (R10). -/
def execRefuse (e : Env) (station count : Nat) (s : State) : Host.Outcome State Fault Refusal :=
  .next ((s.enter e).eventFrom station count .refuse)

/-- SEIZE (R12). -/
def execSeize (e : Env) (station count : Nat) (s : State) : Host.Outcome State Fault Refusal :=
  .next ((s.enter e).eventFrom station count .seize)

/-- SYNC ON c (R18, R44); a channel outside 1–4 has no code and is an unknown event. -/
def execSyncOn (e : Env) (station count channel : Nat) (s : State) : Host.Outcome State Fault Refusal :=
  .next ((s.enter e).eventFrom station count (match ix4? channel with
    | none => .unknown
    | some c => .syncOn c))

/-- SYNC OFF c (R18, R44). -/
def execSyncOff (e : Env) (station count channel : Nat) (s : State) : Host.Outcome State Fault Refusal :=
  .next ((s.enter e).eventFrom station count (match ix4? channel with
    | none => .unknown
    | some c => .syncOff c))

/-- ACK (R18, R172). -/
def execAck (e : Env) (station count : Nat) (s : State) : Host.Outcome State Fault Refusal :=
  .next ((s.enter e).eventFrom station count .ack)

/-- SPLIT (R18, R119). -/
def execSplit (e : Env) (station count : Nat) (s : State) : Host.Outcome State Fault Refusal :=
  .next ((s.enter e).eventFrom station count .split)

/-- ABORT SPLIT (R18, R120). -/
def execAbortSplit (e : Env) (station count : Nat) (s : State) : Host.Outcome State Fault Refusal :=
  .next ((s.enter e).eventFrom station count .abortSplit)

/-- RECOUPLE (R18, R121). -/
def execRecouple (e : Env) (station count : Nat) (s : State) : Host.Outcome State Fault Refusal :=
  .next ((s.enter e).eventFrom station count .recouple)

/-- ABORT REJOIN (R18, R123). -/
def execAbortRejoin (e : Env) (station count : Nat) (s : State) : Host.Outcome State Fault Refusal :=
  .next ((s.enter e).eventFrom station count .abortRejoin)

/-- TRANSFER STOP (R18, R156). -/
def execTransferStop (e : Env) (station count : Nat) (s : State) : Host.Outcome State Fault Refusal :=
  .next ((s.enter e).eventFrom station count .transferStop)

/-! ## Timers of the station unit -/

/-- A PRESENT station becomes SILENT, with its condition and its consequences for authority (R3, R13, R14). -/
def State.goSilent (s : State) (n : Fin 4) : State :=
  let s1 := (s.modStation n fun x => { x with presence := .silent }).setSource (1 + n.val) true
  if s1.station.holder = some n then s1.loseHolder
  else if s1.station.requester = some n then s1.timeOutRequest
  else s1

/-- A station's silence timer expires (R3). Of the expired timer the record keeps nothing, so that READ STATE sends it
absent like a stopped one until the next frame starts it: DESIGN CHOICE (notes/assumptions/15.md). -/
def State.silenceExpires (s : State) (n : Fin 4) : State :=
  match (s.stationAt n).silence with
  | none => s
  | some t =>
    let s1 := (s.reach t).modStation n fun x => { x with good := 0, silence := none }
    if (s1.stationAt n).presence = .present then s1.goSilent n else s1

/-- SILENCE_TIMER_EXPIRY (R3). -/
def execSilenceTimerExpiry (e : Env) (station : Nat) (s : State) : Host.Outcome State Fault Refusal :=
  .next (match ix4? station with
    | none => s.enter e
    | some n => (s.enter e).silenceExpires n)

/-- TRANSFER_TIMER_EXPIRY (R11). -/
def execTransferTimerExpiry (e : Env) (s : State) : Host.Outcome State Fault Refusal :=
  let s1 := s.enter e
  .next (match s1.station.transferTimer with
    | none => s1
    | some t => (s1.reach t).timeOutRequest)

/-- ORPHAN_TIMER_EXPIRY (R13): run-down. -/
def execOrphanTimerExpiry (e : Env) (s : State) : Host.Outcome State Fault Refusal :=
  let s1 := s.enter e
  .next (match s1.station.orphanTimer with
    | none => s1
    | some t => ((s1.reach t).setOrphan none).zeroValues)

/-- A channel's invalid timer expires (R16): its lever in use becomes 0 and it is in lever fault. -/
def State.invalidExpires (s : State) (c : Fin 4) : State :=
  match s.station.invalidTimer[c.val] with
  | none => s
  | some t =>
    let s1 := s.reach t
    (s1.withStation { s1.station with
      inUse := { s1.station.inUse with levers := s1.station.inUse.levers.set c.val 0 c.isLt }
      invalidTimer := s1.station.invalidTimer.set c.val none c.isLt
      leverFault := s1.station.leverFault.set c.val true c.isLt }).evalLeverFault

/-- LEVER_INVALID_TIMER_EXPIRY (R16). -/
def execLeverInvalidTimerExpiry (e : Env) (channel : Nat) (s : State) : Host.Outcome State Fault Refusal :=
  .next (match ix4? channel with
    | none => s.enter e
    | some c => (s.enter e).invalidExpires c)

/-! ## The station table and resets (R1, R22) -/

/-- The class a station table's entry gives (section 11.6). -/
def classOfCode (n : Nat) : StationClass := if n = 0 then .wheelhouse else .engineRoom

/-- The class and fitted fields of station n + 1 under a station table (R1). That a station the table leaves out keeps
its class is DESIGN CHOICE (notes/assumptions/21.md). -/
def Station.refit (es : Option (List StationEntry)) (n : Fin 4) (x : Station) : Station :=
  match es with
  | none => { x with fitted := true, cls := .engineRoom }
  | some l =>
    match l.find? (fun e => e.address = n.val + 1) with
    | none => { cls := x.cls, fitted := false }
    | some e => { x with fitted := true, cls := classOfCode e.cls }

/-- A station table is applied (R1): the records of addresses left not fitted become ABSENT, and their
STATION n SILENT clears. -/
def State.applyStationTable (s : State) : State :=
  let s1 := s.withStation { s.station with
    stations := Vector.ofFn fun n : Fin 4 => Station.refit s.stationTable n (s.stationAt n) }
  (Bank.indices 4).foldl (fun t n =>
    if (t.stationAt n).fitted then t else t.setSource (1 + n.val) false) s1

/-- The station unit after either reset (R22); the follow-up schedule starts now. A station that the station table
leaves not fitted is of class ENGINE ROOM, the class of a record that no table has set: DESIGN CHOICE
(notes/assumptions/21.md). -/
def State.resetStations (s : State) : State :=
  s.withStation
    { stations := Vector.ofFn fun n : Fin 4 => Station.refit s.stationTable n {}
      followUpNext := s.now }

end Sys2Proof.Machine
end

