-- ==== Sys2Proof/Machine/Checks.lean ====
section
/-! DEFINITION. The checks of a table load (R183 step 2): each table's image length (section 11.6), its own
checks, and its checks against the other tables in use, as the owning chapters give them. A load that fails
any of them is refused as BAD TABLE. Flag bits to which section 11.6 gives no meaning are not looked at. -/

namespace Sys2Proof.Machine

/-- All members of a list differ from one another. -/
def allDistinct {α : Type} [DecidableEq α] : List α → Bool
  | [] => true
  | x :: xs => !decide (x ∈ xs) && allDistinct xs

/-- `lo ≤ n ≤ hi`. -/
def within (lo hi n : Nat) : Bool := lo ≤ n && n ≤ hi

/-! ## Image lengths (section 11.6) -/

/-- Whether an image has the length of its table id. -/
def lengthFits (id : Fin 13) (b : Bytes) : Bool :=
  let n := byteAt b 0
  match id.val + 1 with
  | 1 => b.length == 1 + 3 * n
  | 2 => b.length == 61
  | 3 => b.length == 268
  | 4 => b.length == 84
  | 5 => b.length == 2 + 6 * byteAt b 1
  | 6 => b.length == 1 + 5 * n
  | 7 => b.length == 1 + 6 * n
  | 8 => b.length == 13
  | 9 => b.length == 270
  | 10 => b.length == 18 + 2 * n
  | 11 => b.length == 270
  | 12 => b.length == 160
  | 13 => b.length == 6
  | _ => false

/-! ## Table 1 (R177) -/

def checkStationTable (b : Bytes) : Bool :=
  let es := parseStations b
  within 1 4 (byteAt b 0)
    && es.all (fun e => within 1 4 e.address && e.cls ≤ 1 && e.rights ≤ 15)
    && allDistinct (es.map (·.address))
    && es.any (fun e => bitOf e.rights Rights.sys.bit)

/-! ## Table 2 (R23) -/

/-- Engine n's entry of an image while it is present. -/
def presentEngine (b : Bytes) (n : Fin 4) : Option EngineEntry :=
  if (engineEntryOf b n).present then some (engineEntryOf b n) else none

/-- The present engines of an image, by engine index. -/
def presentEngines (b : Bytes) : List (Fin 4 × EngineEntry) :=
  (Bank.indices 4).filterMap fun n => (presentEngine b n).map fun e => (n, e)

/-- The ranges of R23. -/
def EngineEntry.inRange (e : EngineEntry) : Bool :=
  within 1 4 e.channel && within 300 900 e.idle && within (e.idle + 100) 2400 e.maxAhead
    && within (e.idle + 100) 2400 e.maxAstern && within 1 500 e.rampUp && within 1 500 e.rampDown
    && (e.dwell == 0 || within 5 50 e.dwell) && within 1 30 e.node && within 1 12 e.feedTank

/-- The check of an engine table image (R23). The sync gain K is no entry's field: that a K above 16 refuses the table
also where it has no present engine is a DESIGN CHOICE (notes/assumptions/19.md). -/
def checkEngineTable (b : Bytes) : Bool :=
  let es := presentEngines b
  syncGainOf b ≤ 16 && es.all (fun p => p.2.inRange) && allDistinct (es.map (·.2.node))

/-! ## Table 3 (R25) -/

/-- A curve's breakpoints: within 0 to 1000, x strictly rising, y never falling (R25). -/
def curveFits : List (Nat × Nat) → Bool
  | [] => true
  | [p] => p.1 ≤ 1000 && p.2 ≤ 1000
  | p :: q :: rest => p.1 ≤ 1000 && p.2 ≤ 1000 && decide (p.1 < q.1) && p.2 ≤ q.2 && curveFits (q :: rest)

def ChannelCurves.fits (k : ChannelCurves) : Bool :=
  k.dead ≤ 100 && within 2 8 k.aheadCount && within 2 8 k.asternCount && curveFits k.ahead && curveFits k.astern

def checkCurveTable (b : Bytes) : Bool := (Bank.indices 4).all fun c => (channelCurvesOf b c).fits

/-! ## Table 4 (R50, R51) -/

/-- The actuator at a position of an image while it is present. -/
def presentActuator (b : Bytes) (i : Fin 7) : Option SteerEntry :=
  if (steerEntryOf b i).present then some (steerEntryOf b i) else none

def presentActuators (b : Bytes) : List (Fin 7 × SteerEntry) :=
  (Bank.indices 7).filterMap fun i => (presentActuator b i).map fun a => (i, a)

/-- The present MAIN and FLANKING actuators. -/
def presentRudders (b : Bytes) : List (Fin 7 × SteerEntry) := (presentActuators b).filter fun p => p.1 ≠ bowIx

/-- The kind fixed for a position (section 3.1): MAIN 0, FLANKING 1, BOW 2. -/
def kindAt (i : Fin 7) : Nat := if i = bowIx then 2 else if isFlanking i then 1 else 0

/-- The side fixed for a flanking position (section 3.1): FR3 and FR4 are STARBOARD. -/
def starboardAt (i : Fin 7) : Bool := 4 ≤ i.val

/-- The ranges of R50. -/
def SteerEntry.inRange (i : Fin 7) (a : SteerEntry) : Bool :=
  a.kind == kindAt i && decide (-1000 ≤ a.gain) && decide (a.gain ≤ 1000) && within 50 450 a.limit
    && within 10 300 a.rate && within 10 100 a.tolerance && within 5 100 a.followTime
    && within 1 (if i = bowIx then 48 else 30) a.node
    && (!isFlanking i || within 1 4 a.interlock)

/-- The interlock engine of a flanking rudder is a present engine of the rudder's side (R51). -/
def interlockFits (engines : Bytes) (i : Fin 7) (a : SteerEntry) : Bool :=
  match ix4? a.interlock with
  | none => false
  | some n =>
    match presentEngine engines n with
    | none => false
    | some e => e.starboard == starboardAt i

/-- The comparison of a steering table with an engine table (R51). -/
def steerEngineFit (steering engines : Bytes) : Bool :=
  (presentRudders steering).all fun p =>
    (presentEngines engines).all (fun q => p.2.node != q.2.node)
      && (!isFlanking p.1 || interlockFits engines p.1 p.2)

def checkSteeringTable (b : Bytes) : Bool :=
  (presentActuators b).all (fun p => p.2.inRange p.1) && allDistinct ((presentRudders b).map (·.2.node))

/-! ## Table 5 (R68 to R70) -/

/-- The ranges of R68, with the agreement of kind and content of R69. -/
def SlotEntry.inRange (e : SlotEntry) : Bool :=
  e.kind ≤ 2 && e.content ≤ 12
    && (!e.active
      || (within 1 30 e.node && within 2 50 e.window && decide (e.divider ∈ [1, 2, 4, 8, 16, 32])
        && decide (e.phase < e.divider)
        && (decide (e.content ≠ 10 ∧ e.content ≠ 11) || e.kind == 2)))

/-- The active slots with a content. -/
def slotsWith (es : List SlotEntry) (content : Nat) : List SlotEntry := es.filter fun e => e.content = content

/-- The active EXCHANGE slots with a content. -/
def exchangesWith (es : List SlotEntry) (content : Nat) : List SlotEntry :=
  (slotsWith es content).filter fun e => e.kind = 1

/-- The rules of R69 across the active slots. -/
def slotsAgree (es : List SlotEntry) : Bool :=
  (List.range 10).all (fun c => (exchangesWith es c).length ≤ 1)
    && es.all (fun e => es.all fun f =>
      (e.node != f.node || e.content == f.content)
        && (!(e.content == 12 && f.content == 12) || e.node == f.node))

/-- The comparison of a slot table with an engine table (R70). -/
def slotEngineFit (slots engines : Bytes) : Bool :=
  let es := activeSlotsOf slots
  (presentEngines engines).all fun p =>
    !(exchangesWith es p.1.val).isEmpty && (slotsWith es p.1.val).all fun e => e.node == p.2.node

/-- The comparison of a slot table with a steering table (R70). -/
def slotSteerFit (slots steering : Bytes) : Bool :=
  let es := activeSlotsOf slots
  (presentRudders steering).all fun p =>
    !(exchangesWith es (4 + p.1.val)).isEmpty && (slotsWith es (4 + p.1.val)).all fun e => e.node == p.2.node

def checkSlotTable (b : Bytes) : Bool :=
  let p := slotPeriodOf b
  let es := activeSlotsOf b
  within 20 100 p && p % 5 == 0 && slotCountOf b ≤ 32
    && (slotEntriesOf b).all SlotEntry.inRange && slotsAgree es
    && (es.map (·.window)).sum ≤ 10 * p

/-! ## Tables 6 and 7 (R83, R101, R102) -/

def MakeUpEntry.inRange (m : MakeUpEntry) : Bool :=
  within 1 63 m.address && within 1 8 m.row && within 1 6 m.column && m.channels ≤ 4 && within 1 8 m.profile

def checkMakeUpTable (b : Bytes) : Bool :=
  let es := makeUpOf b
  byteAt b 0 ≤ 48 && es.all MakeUpEntry.inRange && allDistinct (es.map (·.address))
    && allDistinct (es.map fun m => (m.row, m.column)) && (es.filter (·.bow)).length ≤ 1

/-- The kind code of FACE. -/
def kindFace : Nat := 2

def CouplingEntry.inRange (e : CouplingEntry) : Bool :=
  within 1 48 e.nodeIndex && e.kind ≤ 2 && within 100 8000 e.rated && within 1 (e.rated - 1) e.slack
    && !(e.kind == kindFace && e.split)

def checkCouplingTable (b : Bytes) : Bool :=
  let es := couplingsOf b
  byteAt b 0 ≤ 96 && es.all CouplingEntry.inRange && allDistinct (es.map fun e => (e.nodeIndex, e.channel))

/-- The comparison of a make-up table with a coupling table (R102). -/
def towTablesFit (makeUp couplings : Bytes) : Bool :=
  let ms := makeUpOf makeUp
  let cs := couplingsOf couplings
  cs.all (fun c =>
      match ms[c.nodeIndex - 1]? with
      | none => false
      | some m => decide (c.channel < m.channels) && !(c.kind == kindFace && m.cutB))
    && (!cs.any (·.split) || ms.any (·.cutB))

/-! ## Table 8 (R104) -/

def checkLimitsTable (b : Bytes) : Bool :=
  let t := parseTowLimits b
  within 500 950 t.k && within (t.k + 10) 1000 t.u && t.f ≤ 1000 && within 10 500 t.recovery
    && t.splitCap ≤ 1000 && within 1 16 t.blind && within 60 1800 t.rejoin

/-! ## Table 9 (R127, R128) -/

/-- The ranges of R127 for the present consumer at a position. -/
def ConsumerEntry.inRange (e : ConsumerEntry) : Bool :=
  within 1 30 e.node && within 1 4 e.entry && within 100 10000 e.k && e.alpha ≤ 200 && within 100 8000 e.glitch

/-- A generator's feed tank is a present tank of role DAY of the same load (R127). -/
def feedTankFits (b : Bytes) (i : Fin 6) (e : ConsumerEntry) : Bool :=
  decide (i.val < 4) ||
    match (ix12? e.feedTank).bind (presentTank b) with
    | none => false
    | some t => t.role == roleDay

/-- The ranges and marks of R128. -/
def TankEntry.inRange (t : TankEntry) : Bool :=
  t.role ≤ 2 && within 1 1000000 t.capacity && t.gaugeNode ≤ 30
    && (t.gaugeNode == 0 || within 1 8 t.gaugeEntry) && within 1 100000 t.tolerance
    && decide (t.emptyMark < t.lowLow) && decide (t.lowLow < t.low) && decide (t.low < t.high)
    && t.high ≤ t.capacity

def presentConsumers (b : Bytes) : List (Fin 6 × ConsumerEntry) :=
  (Bank.indices 6).filterMap fun i => (presentConsumer b i).map fun e => (i, e)

def presentTanks (b : Bytes) : List TankEntry := (Bank.indices 12).filterMap (presentTank b)

def checkFuelTable (b : Bytes) : Bool :=
  let cs := presentConsumers b
  let ts := presentTanks b
  (Bank.indices 6).all (fun i => (consumerEntryOf b i).present ≤ 1)
    && cs.all (fun p => p.2.inRange && feedTankFits b p.1 p.2)
    && allDistinct (cs.map fun p => (p.2.node, p.2.entry))
    && ts.all TankEntry.inRange
    && allDistinct ((ts.filter fun t => t.gaugeNode != 0).map fun t => (t.gaugeNode, t.gaugeEntry))

/-! ## Table 10 (R148) -/

/-- An enabled rule against the pairs of the same load (R148). -/
def RefillRule.fits (pairs : List (Nat × Nat)) (r : RefillRule) : Bool :=
  r.enabled == 0
    || (r.enabled == 1 && within 1 12 r.dayTank && within 1 12 r.source && r.dayTank != r.source
      && decide ((r.source, r.dayTank) ∈ pairs))

def checkTransferTable (b : Bytes) : Bool :=
  let pairs := pairsOf b
  let k := pumpConstantsOf b
  pairCountOf b ≤ 16
    && pairs.all (fun p => within 1 12 p.1 && within 1 12 p.2 && p.1 != p.2) && allDistinct pairs
    && (Bank.indices 4).all (fun r => (refillRuleOf b r).fits pairs)
    && within 100 10000 k.k && k.alpha ≤ 200 && within 100 8000 k.glitch

/-! ## Tables 11 to 13 (R166, R93, R176) -/

/-- Each entry's code byte is its position, and its fields are in range (R166, section 11.6). -/
def checkReactionTable (b : Bytes) : Bool :=
  (Bank.indices 45).all fun i =>
    let r := reactionOf b i
    byteAt b (6 * i.val) == i.val + 1 && r.cls ≤ 3 && r.cap ≤ 1000 && r.mask ≤ 15

/-- The mask flag of code 0 is clear and every in-bit binding is IGNORE, TOW INPUT A or TOW INPUT B (R93). -/
def checkProfileTable (b : Bytes) : Bool :=
  !maskedBy b 0
    && (List.range 8).all fun p => (List.range 8).all fun k => inBinding b (p + 1) k % 4 != 3

def checkGeneralTable (b : Bytes) : Bool :=
  within 100 2000 (u16 b 0) && u16 b 0 % 50 == 0 && u16 b 2 ≤ 1000 && byteAt b 4 ≤ 2 && byteAt b 5 ≤ 2

/-! ## A load against the tables in use (R183 step 2) -/

/-- The comparison `f` with a table image where there is one. -/
def against (img : Option Bytes) (f : Bytes → Bool) : Bool :=
  match img with
  | none => true
  | some b => f b

/-- The slot table an engine or steering table load is compared with: the pending one, otherwise the one in
use while VALID (R70). -/
def State.slotImageForCheck (s : State) : Option Bytes :=
  match s.mach.pendingTable with
  | some b => some b
  | none => s.tableImage 4

/-- The table's own checks and its cross-table checks (R183 step 2). -/
def State.tableChecks (s : State) (id : Fin 13) (b : Bytes) : Bool :=
  lengthFits id b &&
    match id.val + 1 with
    | 1 => checkStationTable b
    | 2 =>
      checkEngineTable b && against (s.tableImage 3) (fun x => steerEngineFit x b)
        && against s.slotImageForCheck (fun x => slotEngineFit x b)
    | 3 => checkCurveTable b
    | 4 =>
      checkSteeringTable b && against (s.tableImage 1) (fun x => steerEngineFit b x)
        && against s.slotImageForCheck (fun x => slotSteerFit x b)
    | 5 =>
      checkSlotTable b && against (s.tableImage 1) (fun x => slotEngineFit b x)
        && against (s.tableImage 3) (fun x => slotSteerFit b x)
    | 6 => checkMakeUpTable b && against (s.tableImage 6) (fun x => towTablesFit b x)
    | 7 => checkCouplingTable b && against (s.tableImage 5) (fun x => towTablesFit x b)
    | 8 => checkLimitsTable b
    | 9 => checkFuelTable b
    | 10 => checkTransferTable b
    | 11 => checkReactionTable b
    | 12 => checkProfileTable b
    | 13 => checkGeneralTable b
    | _ => false

/-! ## Apply points (R184) -/

/-- No station holds or requests authority. -/
def State.noAuthority (s : State) : Bool := s.station.holder.isNone && s.station.requester.isNone

/-- Every present engine is NEUTRAL with setpoint 16 × its idle (R24). -/
def State.enginesAtRest (s : State) : Bool :=
  (Bank.indices 4).all fun n =>
    match s.engine? n with
    | none => true
    | some e =>
      decide ((s.prop.engines[n.val]).gear = .neutral) && (s.prop.engines[n.val]).setpoint == 16 * e.idle

/-- No consumer present before and after changes its k-factor while its account holds a nonzero total or
remainder (R129). -/
def State.kFactorsKept (s : State) (b : Bytes) : Bool :=
  (Bank.indices 6).all fun i =>
    match s.consumer? i, presentConsumer b i with
    | some o, some n =>
      o.k == n.k
        || (decide ((s.fuel.consumers[i.val]).account.total = 0)
          && decide ((s.fuel.consumers[i.val]).account.remainder = 0))
    | _, _ => true

/-- The apply point of a table (R184). -/
def State.applyPoint (s : State) (id : Fin 13) (b : Bytes) : Bool :=
  match id.val + 1 with
  | 1 => s.noAuthority
  | 2 => s.noAuthority && s.enginesAtRest
  | 3 => s.noAuthority && s.enginesAtRest
  | 4 => s.noAuthority && s.enginesAtRest
  | 6 => decide (s.coup.mode = .normal)
  | 7 => decide (s.coup.mode = .normal)
  | 9 => decide (s.transfer.state = .idle) && s.kFactorsKept b
  | 10 => decide (s.transfer.state = .idle)
  | _ => true

end Sys2Proof.Machine
end

