-- ==== Sys2Proof/Machine/Records.lean ====
section
/-! DEFINITION. The records READ STATE returns (R179, sections 11.2 and 11.3): each group's record as a run of
bytes, its fields in the order the owning chapter lists them, and the parts of 24 bytes it is read in. -/

namespace Sys2Proof.Machine

/-! ## Field encodings (section 11.3) -/

/-- One byte, absent as all ones. -/
def opt1 (x : Option Nat) : Bytes := optNat 1 x

/-- A yes or no, absent as all ones. -/
def optBool (x : Option Bool) : Bytes :=
  match x with
  | some b => boolByte b
  | none => absentBytes 1

/-- The remaining time of a timer, ms. That it is sent absent while the timer is stopped, and that a silence timer which
has expired is sent absent too, is a DESIGN CHOICE (notes/assumptions/15.md). -/
def State.timerBytes (s : State) (t : Option Moment) : Bytes := optNat 2 (t.map s.leftMs)

/-- A moment, absent as all ones. -/
def State.momentBytes (s : State) (t : Option Moment) : Bytes := optNat 4 (t.map s.momentMs)

/-- An age in ms, absent until the first report. -/
def State.ageBytes (s : State) (t : Option Moment) : Bytes := optNat 2 (t.map s.ageMs)

def StationClass.code : StationClass → Nat
  | .wheelhouse => 0
  | .engineRoom => 1

def Presence.code : Presence → Nat
  | .absent => 0
  | .present => 1
  | .silent => 2

def Direction.code : Direction → Nat
  | .ahead => 0
  | .astern => 1

def Phase.code : Phase → Nat
  | .rpmWait => 0
  | .dwell => 1
  | .complete => 2

def Member.code : Member → Nat
  | .outside => 0
  | .lead => 1
  | .waiting => 2
  | .trimmed => 3
  | .dropped => 4

def ReportStanding.code : ReportStanding → Nat
  | .noReport => 0
  | .current => 1
  | .lost => 2

def CheckStanding.code : CheckStanding → Nat
  | .active => 0
  | .suspended => 1

def MachNodeState.code : MachNodeState → Nat
  | .unknown => 0
  | .present => 1
  | .lost => 2

def TowNodeState.code : TowNodeState → Nat
  | .absent => 0
  | .present => 1
  | .silent => 2
  | .fault => 3

def CouplingState.code : CouplingState → Nat
  | .unknown => 0
  | .unmade => 1
  | .made => 2
  | .slack => 3
  | .overload => 4
  | .parted => 5
  | .opened => 6

/-- An UNKNOWN cause and the node's condition code that NODE FAULT carries. That the code's byte stands in the record,
absent, with every other cause too is a DESIGN CHOICE (notes/assumptions/15.md). -/
def UnknownCause.bytes : UnknownCause → Bytes
  | .start => [0] ++ absentBytes 1
  | .nodeSilent => [1] ++ absentBytes 1
  | .nodeFault c => [2, byte c]
  | .sensorFault => [3] ++ absentBytes 1

/-- Chapter 7 lists the standings nowhere together: that they count in the order in which a tank comes into them
(R129, R138, R140) is a DESIGN CHOICE (notes/assumptions/15.md). -/
def GaugeStanding.code : GaugeStanding → Nat
  | .none => 0
  | .noReading => 1
  | .current => 2
  | .lost => 3

/-- Chapter 7 names the four states upward in R141 and downward in R142: that the code counts from NORMAL, as in
R142's table, is a DESIGN CHOICE (notes/assumptions/15.md). -/
def FeedState.code : FeedState → Nat
  | .normal => 0
  | .low => 1
  | .lowLow => 2
  | .empty => 3

def EndCause.code : EndCause → Nat
  | .target => 0
  | .destinationHigh => 1
  | .sourceLow => 2
  | .meterFault => 3
  | .pumpFault => 4
  | .abort => 5
  | .stop => 6
  | .restart => 7

/-! ## Stations (R21) -/

/-- The authority form, in the order of section 1.3. -/
def State.formCode (s : State) : Nat :=
  match s.station.holder, s.station.orphanTimer, s.station.requester with
  | some _, _, none => 2
  | some _, _, some _ => 3
  | none, none, none => 0
  | none, none, some _ => 1
  | none, some _, none => 4
  | none, some _, some _ => 5

/-- The last valid helm frame of a station (R21): 23 bytes, all ones while it is absent. A lever's two bytes, an aux
bit as a yes or no and the event code as its own byte are DESIGN CHOICE (notes/assumptions/15.md): section 11.3 names
the width of none of them. -/
def frameBytes (f : Option HelmFrame) : Bytes :=
  match f with
  | none => absentBytes 23
  | some h =>
    (Bank.indices 4).flatMap (fun c => beInt 2 h.levers[c.val] ++ boolByte h.valid[c.val])
      ++ beInt 2 h.steering ++ beInt 2 h.flanking
      ++ (Bank.indices 4).flatMap (fun c => boolByte h.aux[c.val])
      ++ [byte h.code] ++ beBytes 2 h.count

/-- The authority state as every station record carries it (R21). A lever's two bytes, an aux bit as a yes or no, and a
holder or requester of none sent absent, where the follow-up frame sends 0x00, are DESIGN CHOICE
(notes/assumptions/15.md). -/
def State.authorityBytes (s : State) : Bytes :=
  let a := s.station
  [byte s.formCode] ++ opt1 (a.holder.map (·.val + 1)) ++ opt1 (a.requester.map (·.val + 1))
    ++ s.timerBytes a.transferTimer ++ s.timerBytes a.orphanTimer
    ++ (Bank.indices 4).flatMap (fun c => beInt 2 a.inUse.levers[c.val])
    ++ beInt 2 a.inUse.steering ++ beInt 2 a.inUse.flanking
    ++ (Bank.indices 4).flatMap (fun c => boolByte a.inUse.aux[c.val])
    ++ (Bank.indices 4).flatMap (fun c => s.timerBytes a.invalidTimer[c.val] ++ boolByte a.leverFault[c.val])

/-- A station's record (section 1.1, R21). An event baseline that is unset is sent absent: DESIGN CHOICE
(notes/assumptions/15.md). -/
def State.stationRecord (s : State) (n : Fin 4) : Bytes :=
  let x := s.stationAt n
  [byte (n.val + 1), byte x.cls.code] ++ boolByte x.fitted ++ [byte x.presence.code]
    ++ beBytes 2 x.good ++ s.timerBytes x.silence ++ frameBytes x.frame ++ optNat 2 x.baseline
    ++ [byte x.result.code] ++ s.authorityBytes

/-! ## Engines (section 2.1, R30) -/

/-- An engine's record (section 2.1). A last engaged direction of none is sent absent, all ones: section 2.1 lists none
after AHEAD and ASTERN and calls it nowhere absent, so that by section 11.2 its code might be its position there, 2. So
is the shift target of an engine that is not SHIFTING, which section 2.1 gives no value. Both are DESIGN CHOICE
(notes/assumptions/15.md). -/
def State.engineRecord (s : State) (n : Fin 4) : Bytes :=
  let g := s.engineAt n
  let gear := s.publishedGear n
  [byte gear.code, byte gear.command] ++ opt1 (g.lastDir.map Direction.code)
    ++ opt1 (g.shiftTarget.map Direction.code) ++ [byte g.phase.code]
    ++ s.timerBytes g.dwell ++ s.timerBytes g.confirm ++ boolByte g.gearFault
    ++ beBytes 2 g.setpoint ++ beInt 2 g.trim ++ [byte g.member.code]
    ++ optNat 2 g.rpm ++ opt1 g.confirmedGear
    ++ optBool (g.flags.map (·.running)) ++ optBool (g.flags.map (·.alarm)) ++ optBool (g.flags.map (·.local_))
    ++ [byte g.standing.code] ++ boolByte g.fresh ++ beBytes 2 (s.ageMs g.ageFrom)
    ++ [byte (s.engineState n).code]
    ++ (Bank.indices 4).flatMap (fun c => boolByte s.prop.sync[c.val])

/-! ## Actuators (R64) -/

/-- An actuator's record (R64). The node in use of an actuator that is not present is sent absent: DESIGN CHOICE
(notes/assumptions/15.md). -/
def State.actuatorRecord (s : State) (i : Fin 7) : Bytes :=
  let a := s.actuatorAt i
  beInt 2 a.target ++ beInt 2 a.commanded ++ optInt 2 a.reported ++ [byte a.standing.code]
    ++ boolByte a.fault ++ (if i = bowIx then boolByte a.usable else [])
    ++ opt1 ((s.actuator? i).map (·.node))

/-! ## Machinery nodes (R80) -/

/-- A machinery node's record (R80). A content kind of none, and the P in use without a VALID slot table, are sent
absent: DESIGN CHOICE (notes/assumptions/15.md). -/
def State.machNodeRecord (s : State) (i : Fin 30) : Bytes :=
  let n := s.machNodeAt i
  [byte n.state.code] ++ beBytes 2 n.misses ++ beBytes 2 n.good ++ beBytes 2 n.total ++ s.ageBytes n.lastGood
    ++ opt1 (s.contentKind (i.val + 1)) ++ beBytes 2 s.mach.cycleCount
    ++ optNat 2 ((s.tableImage 4).map slotPeriodOf) ++ boolByte s.mach.pendingTable.isSome

/-! ## Tow nodes (R99) -/

/-- The last reply of a tow node; while it is absent, every field of its entry's reply is all ones. -/
def towReplyBytes (m : MakeUpEntry) (r : Option TowReply) : Bytes :=
  match r with
  | none => absentBytes (m.channels + 2 + (if m.bow then 2 else 0))
  | some x => x.codes ++ [byte x.condition, x.inBits] ++ (if m.bow then optInt 2 x.bow else [])

/-- A tow node's record (R99). The poll interval in use is that of the general table in use, at once after a load of it
(R184), though the new interval acts only from the next cycle start that the controller computes (R85): DESIGN CHOICE
(notes/assumptions/22.md). A poll position with no entry polled in the cycle yet, the start of a cycle where none runs
and the node of no transaction are sent absent: DESIGN CHOICE (notes/assumptions/15.md). -/
def State.towNodeRecord (s : State) (i : Nat) (n : TowNode) (m : MakeUpEntry) : Bytes :=
  let t := s.towLine
  [byte n.state.code] ++ beBytes 2 n.good ++ beBytes 2 n.missed ++ beBytes 2 n.total
    ++ towReplyBytes m n.reply ++ s.ageBytes n.lastGood ++ [byte m.address, byte (i + 1)]
    ++ opt1 (if t.pos = 0 then none else some t.pos)
    ++ s.momentBytes (if t.running then some t.cycleStart else none)
    ++ beBytes 2 s.pollInterval ++ boolByte t.access.isSome ++ opt1 (t.access.map (·.address))

/-! ## Couplings (R117) -/

/-- Bytes `o` to `o + n − 1` of a table image: an entry as its image carries it. -/
def imagePart (img : Option Bytes) (o n : Nat) : Bytes :=
  match img with
  | none => absentBytes n
  | some b => (b.drop o).take n

/-- The rejoin timer's remaining time in whole seconds. -/
def State.rejoinLeft (s : State) : Option Nat :=
  s.coup.rejoinStart.map fun t => (t + sec s.towLimits.rejoin - s.now) / 100000

/-- A coupling's record (R117). An unknown cause of none with its condition code, a ρmax of none and a rejoin timer that
does not run are sent absent: DESIGN CHOICE (notes/assumptions/15.md). -/
def State.couplingRecord (s : State) (i : Nat) (c : Coupling) (e : CouplingEntry) : Bytes :=
  [byte c.state.code] ++ optNat 2 c.last ++ optNat 4 (ratioOf c e) ++ beBytes 2 c.taut ++ beBytes 2 c.slack
    ++ beBytes 2 c.sensor
    ++ (match c.cause with
        | none => absentBytes 2
        | some x => x.bytes)
    ++ imagePart (s.tableImage 6) (1 + 6 * i) 6
    ++ beBytes 2 s.coup.cTow ++ beBytes 2 s.cCap ++ optNat 4 s.rhoMax ++ boolByte s.coup.startLimit
    ++ [byte s.coup.mode.code] ++ optNat 2 s.rejoinLeft

/-! ## Consumers and tanks (R146) -/

/-- VALID 0, INVALID 1. -/
def validityByte (valid : Bool) : Bytes := [if valid then 0 else 1]

/-- A consumer's record (section 7.2, R146). The table entry while table 9 is INVALID and the feed tank in use of a
consumer that has none are sent absent: DESIGN CHOICE (notes/assumptions/15.md). -/
def State.consumerRecord (s : State) (i : Fin 6) : Bytes :=
  let c := s.consumerAt i
  let a := c.account
  let feed := s.feedTankOf i
  beInt 8 a.total ++ beInt 8 a.remainder ++ beBytes 2 a.unmetered ++ optInt 2 a.lastTemp
    ++ validityByte a.valid ++ boolByte c.baseValid ++ beBytes 2 c.baseSupply ++ beBytes 2 c.baseReturn
    ++ beBytes 2 c.gap ++ optInt 2 (c.held.map (·.net)) ++ optInt 4 (c.held.map (·.factor))
    ++ boolByte c.meterFault ++ imagePart (s.tableImage 8) (9 * i.val) 9
    ++ opt1 (if feed = 0 then none else some feed) ++ optNat 2 c.tempCode

/-- C_feed of engine n as tank i + 1 gives it. That an engine which the tank does not feed has its place in the record,
sent absent, is a DESIGN CHOICE (notes/assumptions/15.md). -/
def State.feedBytes (s : State) (i : Fin 12) (n : Fin 4) : Bytes :=
  match s.engine? n with
  | none => absentBytes 2
  | some e => if e.feedTank = i.val + 1 then beBytes 2 (s.cFeed n) else absentBytes 2

/-- A tank's record (section 7.3, R146). A discrepancy run start of none, and the table entry while table 9 is INVALID,
are sent absent: DESIGN CHOICE (notes/assumptions/15.md). -/
def State.tankRecord (s : State) (i : Fin 12) : Bytes :=
  let t := s.tankRec i
  let b := t.book
  beInt 8 b.opening ++ beInt 8 b.receipts ++ beInt 8 b.moveIn ++ beInt 8 b.moveOut ++ beInt 8 b.consumption
    ++ beInt 8 b.book ++ validityByte b.valid ++ [byte t.standing.code] ++ optNat 4 t.level
    ++ s.ageBytes t.levelAt ++ [byte t.feedState.code] ++ boolByte t.lowFlag ++ boolByte t.lowLowFlag
    ++ boolByte t.emptyFlag ++ (Bank.indices 4).flatMap (s.feedBytes i) ++ boolByte t.discrepancy
    ++ s.momentBytes t.runStart ++ imagePart (s.tableImage 8) (54 + 18 * i.val) 18

/-! ## Runs (R161) -/

/-- The duration of a run in s, staying at 65 535: counted from its acceptance, and held once the run has ended
(R149, R152). -/
def State.runDuration (s : State) (r : Run) : Nat :=
  r.duration.getD (min 65535 ((s.now - r.started) / 100000))

/-- A run record: 31 bytes. The end cause is absent until the run takes one, and the rule index for MANUAL (R149).
That a record where there is no run is sent with every field absent is a DESIGN CHOICE (notes/assumptions/15.md). -/
def State.runBytes (s : State) (r : Option Run) : Bytes :=
  match r with
  | none => absentBytes 31
  | some x =>
    beBytes 2 x.number ++ [byte x.source, byte x.dest] ++ beBytes 4 x.target ++ boolByte x.clamped
      ++ (match x.origin with
          | none => [0] ++ absentBytes 1
          | some k => [1, byte k])
      ++ beInt 8 x.moved ++ beInt 8 x.trailer ++ opt1 (x.cause.map EndCause.code) ++ boolByte x.incomplete
      ++ beBytes 2 (s.runDuration x)

/-- The run in progress and the pump meter (R161). The pump order's run or stop is sent as run 1 and stop 0, as in the
pump command of section 11.4, and not by its place in R150's list: DESIGN CHOICE (notes/assumptions/15.md). The pump
meter's baseline is sent absent, all ones, while it is invalid, which a valid baseline of 65 535 reads as too: R161
publishes the baseline without its validity and calls it nowhere absent: DESIGN CHOICE (notes/assumptions/15.md). -/
def State.runRecord (s : State) : Bytes :=
  let t := s.transfer
  let o := t.order
  [byte t.state.code] ++ s.runBytes t.run ++ s.timerBytes t.confirmTimer ++ s.timerBytes t.trailerTimer
    ++ beBytes 2 t.zeroCount ++ boolByte o.run ++ [byte o.source, byte o.dest]
    ++ optNat 2 t.pump.baseline ++ beBytes 2 t.pump.gap ++ beInt 8 t.pump.remainder
    ++ optInt 2 t.pump.lastTemp ++ beBytes 2 t.idleCount

/-- A rule's state (R161). A last refusal of none is sent absent: DESIGN CHOICE (notes/assumptions/15.md). -/
def RuleState.bytes (r : RuleState) : Bytes :=
  boolByte r.latch ++ boolByte r.waiting ++ opt1 (r.lastRefusal.map Status.code)

/-- History position `pos` from 1, the newest. -/
def State.historyRecord (s : State) (pos : Nat) : Bytes :=
  s.runBytes s.transfer.history[pos - 1]? ++ beBytes 2 s.transfer.counter
    ++ (Bank.indices 4).flatMap fun r => (s.transfer.rules[r.val]).bytes

/-! ## Line counters (R194) and the table store (R179) -/

def BasicCounters.bytes (c : BasicCounters) : Bytes :=
  beBytes 2 c.framing ++ beBytes 2 c.length ++ beBytes 2 c.crc ++ beBytes 2 c.discarded

/-- The counters of a line: index 0 station, 1 machinery, 2 tow. -/
def State.lineRecord (s : State) (index : Nat) : Option Bytes :=
  let l := s.lines
  match index with
  | 0 => some (beBytes 2 l.stationGood ++ l.station.bytes ++ beBytes 2 l.stationTransmit)
  | 1 =>
    some (l.machinery.bytes ++ beBytes 2 l.machWrongSource ++ beBytes 2 l.machStray ++ beBytes 2 l.machLate
      ++ beBytes 2 l.machOverruns)
  | 2 =>
    some (l.tow.bytes ++ beBytes 2 l.towWrongSource ++ beBytes 2 l.towMalformed ++ beBytes 2 l.towStray
      ++ beBytes 2 l.towLate)
  | _ => none

/-- The table store's record (section 10.4). That a slot's standing is its validity and its fault flag, without the
length and the checksum of its image, that the pending flag follows the 13 standings, and that the owner and the table
of a free buffer and the occupant of an empty waiting-load slot are sent absent is a DESIGN CHOICE
(notes/assumptions/15.md). -/
def State.storeRecord (s : State) : Bytes :=
  let t := s.store
  (Bank.indices 13).flatMap (fun id => validityByte (s.slot id).valid ++ boolByte (s.slot id).fault)
    ++ boolByte s.mach.pendingTable.isSome ++ opt1 (t.buffer.map (·.owner)) ++ opt1 (t.buffer.map (·.table))
    ++ opt1 (t.waitingLoad.map (·.station)) ++ beBytes 2 t.corrected ++ beBytes 2 t.writeFailures

/-! ## Groups, indexes and parts (R179) -/

/-- Index 0 to n − 1 of a record numbered 1 to n. -/
def indexOf? (n : Nat) (index : Nat) : Option (Fin n) :=
  if h : 1 ≤ index ∧ index ≤ n then some ⟨index - 1, by omega⟩ else none

/-- The record of a group and an index; none for an unknown group or an index beyond the group. -/
def State.record? (s : State) (group index : Nat) : Option Bytes :=
  match group with
  | 1 => (indexOf? 4 index).map s.stationRecord
  | 2 => (indexOf? 4 index).map s.engineRecord
  | 3 => (indexOf? 7 index).map s.actuatorRecord
  | 4 => (indexOf? 30 index).map s.machNodeRecord
  | 5 =>
    if index = 0 then none
    else
      match s.towLine.nodes[index - 1]?, s.pollList[index - 1]? with
      | some n, some m => some (s.towNodeRecord (index - 1) n m)
      | _, _ => none
  | 6 =>
    if index = 0 then none
    else
      match s.coup.records[index - 1]?, s.couplingEntries[index - 1]? with
      | some c, some e => some (s.couplingRecord (index - 1) c e)
      | _, _ => none
  | 7 => (indexOf? 6 index).map s.consumerRecord
  | 8 => (indexOf? 12 index).map s.tankRecord
  | 9 => if index = 1 then some s.runRecord else none
  | 10 => if 1 ≤ index ∧ index ≤ 8 then some (s.historyRecord index) else none
  | 11 => s.lineRecord index
  | 12 => if index = 1 then some s.storeRecord else none
  | _ => none

/-- The number of 24-byte parts of a record. -/
def partCount (b : Bytes) : Nat := (b.length + 23) / 24

/-- The fields of the OK reply for a part of a record, numbered from 0; none for a part beyond the count. -/
def recordPart (b : Bytes) (part : Nat) : Option Bytes :=
  if part < partCount b then some ([byte (partCount b)] ++ (b.drop (24 * part)).take 24) else none

end Sys2Proof.Machine
end

