-- ==== Sys2Proof/Machine/Scheduler.lean ====
section
/-! DEFINITION. The machinery scheduler (chapter 4): cycles and their mark, slot fires, windows and reports,
node records, the hand-over to the owners, slot tables put in use, and resets. -/

namespace Sys2Proof.Machine

/-! ## Hand-over by content kind (R78) -/

/-- A good report handed to the owner of its content (R78, R79): an engine report to the engine and a rudder report to
the actuator whose node the reporting one is, whatever engine or actuator the slot names (R27, R53). That a report
carries an angle or an engine's values by the kind its slot expects, and no other report does, is DEDUCED
(notes/assumptions/10.md). -/
def State.handReport (s : State) (address content : Nat) (b : Bytes) : State :=
  if content ≤ 3 then s.enginesReport address (engineReportOf b)
  else if content ≤ 9 then s.ruddersReport address (s16 b 0)
  else if content = 10 then s.meterReport address b
  else if content = 11 then s.gaugeReport address b
  else if content = 12 then s.pumpReport (pumpReportOf b)
  else s

/-- A miss handed to the owner of the node's content (R78). A rudder's and a gauge's misses change nothing
at their owners. -/
def State.handMiss (s : State) (address content : Nat) : State :=
  if content ≤ 3 then s.enginesMiss address
  else if content = 10 then s.meterMiss address
  else if content = 12 then s.pumpMiss
  else s

/-- The loss (`lost`) or the return of a node handed to the owner of its content (R78). A meter's and the
pump's return change nothing at their owners, which wait for the next report (R130, R151). -/
def State.handNode (s : State) (address content : Nat) (lost : Bool) : State :=
  if content ≤ 3 then s.enginesNode address lost
  else if content ≤ 9 then s.followNode address lost
  else if content = 10 then (if lost then s.meterLost address else s)
  else if content = 11 then s.gaugeNodeChange address lost
  else if content = 12 then (if lost then s.pumpLost else s)
  else s

/-! ## Node records (R76) and MACHINERY NODE LOST (R77) -/

/-- A node record after a good report (R76). -/
def MachNode.goodReport (now : Moment) (n : MachNode) : MachNode :=
  { n with
    misses := 0
    good := satSucc 2 n.good
    lastGood := some now
    state := if satSucc 2 n.good = 2 then .present else n.state }

/-- A node record after a miss (R76). -/
def MachNode.miss (n : MachNode) : MachNode :=
  { n with
    good := 0
    misses := satSucc 3 n.misses
    total := satSucc 65535 n.total
    state := if n.state = .present ∧ satSucc 3 n.misses = 3 then .lost else n.state }

/-- A node record set to UNKNOWN with all its counts 0 (R71); R71 names the state and the counts, so the
report age goes on. -/
def MachNode.unheard (n : MachNode) : MachNode := { lastGood := n.lastGood }

/-- MACHINERY NODE LOST (code 28): a node that an active slot of the table in use names is LOST (R77). -/
def State.evalMachLost (s : State) : State :=
  s.setSource 28 ((Bank.indices 30).any fun i =>
    (s.contentKind (i.val + 1)).isSome && decide ((s.machNodeAt i).state = .lost))

/-- The node record of an address counts an event (R76), the owner having been handed the report or the miss
first; then the change of state is handed over (R78), the check standings follow it (R63), and so does
condition 28 (R77). -/
def State.countNode (s : State) (address content : Nat) (f : MachNode → MachNode) : State :=
  match ix30? address with
  | none => s
  | some i =>
    let before := (s.machNodeAt i).state
    let s1 := s.modMachNode i f
    let after := (s1.machNodeAt i).state
    if before = after then s1
    else
      ((s1.handNode address content (decide (after = .lost))).followNode address
        (decide (after = .lost))).evalMachLost

/-- A good report taken from a node (R74, R76, R78). -/
def State.nodeReport (s : State) (address content : Nat) (b : Bytes) : State :=
  (s.handReport address content b).countNode address content (MachNode.goodReport s.now)

/-- A miss recorded against a node (R74, R76, R78). -/
def State.nodeMiss (s : State) (address content : Nat) : State :=
  (s.handMiss address content).countNode address content MachNode.miss

/-! ## Slot fires (R72, R73) -/

/-- Whether a slot is due in the cycle of this count (R72). -/
def SlotEntry.due (e : SlotEntry) (count : Nat) : Bool := e.active && count % e.divider == e.phase

/-- Whether a due slot fires at its turn: its engine or actuator is present (R72). -/
def State.slotFires (s : State) (e : SlotEntry) : Bool :=
  if e.content ≤ 3 then (s.engine? (Fin.ofNat 4 e.content)).isSome
  else if e.content ≤ 9 then (s.actuator? (Fin.ofNat 7 (e.content - 4))).isSome
  else true

/-- The frame of an engine slot (R73): the demand computation for an EXCHANGE, the most recent command for
a COMMAND, idle and NEUTRAL before the first. -/
def State.fireEngine (s : State) (e : SlotEntry) (interval : Nat) (n : Fin 4) (t : EngineEntry) : State :=
  let r :=
    if slotKindOf e.kind = .exchange then s.demand n t interval (s.cEff n)
    else (((s.engineAt n).lastCommand).getD { rpm := t.idle, gear := 0 }, s)
  r.2.sendMachinery e.node 0x11 (beBytes 2 r.1.rpm ++ [byte r.1.gear])

/-- The frame of an actuator slot (R73): the computation for an EXCHANGE, the commanded angle as it stands
for a COMMAND. -/
def State.fireActuator (s : State) (e : SlotEntry) (interval : Nat) (i : Fin 7) (a : SteerEntry) : State :=
  let s1 := if slotKindOf e.kind = .exchange then s.rudderCompute i a interval else s
  s1.sendMachinery e.node 0x12 (beInt 2 (s1.actuatorAt i).commanded)

/-- The pump command of a pump slot (R73, R150). -/
def State.firePump (s : State) (e : SlotEntry) : State :=
  let o := s.transfer.order
  s.sendMachinery e.node 0x13 [if o.run then 1 else 0, byte o.source, byte o.dest]

/-- The frame a firing slot sends, obtained from its content's owner as the slot opens (R73). -/
def State.fireFrame (s : State) (e : SlotEntry) (interval : Nat) : State :=
  if slotKindOf e.kind = .call then s.sendMachinery e.node 0x14 []
  else if e.content ≤ 3 then
    match s.engine? (Fin.ofNat 4 e.content) with
    | none => s
    | some t => s.fireEngine e interval (Fin.ofNat 4 e.content) t
  else if e.content ≤ 9 then
    match s.actuator? (Fin.ofNat 7 (e.content - 4)) with
    | none => s
    | some a => s.fireActuator e interval (Fin.ofNat 7 (e.content - 4)) a
  else s.firePump e

/-- A slot opens: its window runs from the moment its frame begins to leave (R66, R74). -/
def State.openWindow (s : State) (e : SlotEntry) : State :=
  s.withMach { s.mach with
    window := some
      { node := e.node, content := e.content, kind := slotKindOf e.kind
        openAt := s.now, closeAt := s.now + tenthMs e.window } }

/-- The slots whose turn is still to come are served in list order: the first that fires opens, and those
before it that do not fire take no time (R66, R72). `image` is the slot table in use. -/
def State.fireFrom (s : State) (image : Bytes) : List Nat → State
  | [] => s.withMach { s.mach with slotsLeft := [], window := none }
  | i :: rest =>
    let e := slotEntryOf image i
    if s.slotFires e then
      let s1 := (s.withMach { s.mach with slotsLeft := rest }).openWindow e
      s1.fireFrame e (e.divider * slotPeriodOf image)
    else s.fireFrom image rest

/-- The next slot of the running cycle opens (R66). -/
def State.fireNext (s : State) : State :=
  match s.tableImage 4 with
  | none => s.fireFrom [] []
  | some b => s.fireFrom b s.mach.slotsLeft

/-! ## Cycles (R66, R67) -/

/-- The propulsion-enabled flag (R67): tables 2, 3 and 5 are all VALID. -/
def State.propulsionEnabled (s : State) : Bool := (s.slot 1).valid && (s.slot 2).valid && (s.slot 4).valid

/-- The cycle mark (R67). -/
def State.sendMark (s : State) : State :=
  s.sendMachinery Config.broadcast 0x10
    (beBytes 2 s.mach.cycleCount ++ [if s.propulsionEnabled then 1 else 0])

/-- The first slot of a cycle that fires, served behind the mark, which has left 90 µs after the boundary (R66);
the clock itself stays at the boundary, so that a frame arriving while the mark leaves meets no window (R75). -/
def State.fireAfterMark (s : State) : State := (s.reach (s.now + Config.markTime)).fireNext.withNow s.now

/-- A cycle begins at this moment with count `count` under the slot table `image` (R66): the mark leaves, and
when it has left, the first slot that fires opens. -/
def State.beginCycle (s : State) (image : Bytes) (count : Nat) : State :=
  let s1 := s.withMach { s.mach with
    running := true
    cycleCount := count
    nextBoundary := s.now + ms (slotPeriodOf image)
    slotsLeft := (List.range (slotCountOf image)).filter fun i => (slotEntryOf image i).due count
    window := none }
  s1.sendMark.fireAfterMark

/-- The first cycle, with count 0, begins if the slot table is VALID (R66, R81). Its first slot fires within the step
that begins it (CONTROL_RESTART, COLD_START or LOAD_END), as CYCLE_BOUNDARY's does: DEDUCED
(notes/assumptions/11.md). -/
def State.startMachinery (s : State) : State :=
  match s.tableImage 4 with
  | none => s
  | some b => s.beginCycle b 0

/-! ## A slot table put in use (R71) -/

/-- One node's part of a new slot table: the content kind is the same, or the record becomes UNKNOWN, with a
loss handed to the old owner of a PRESENT node (R71, R78). A LOST node leaves LOST, and the check standings
follow (R63). `old` and `new` are the content kinds. That an old pump node which was not PRESENT hands no loss, so
that the pump meter keeps its baseline though the part then has no pump node or another one, is DEDUCED
(notes/assumptions/10.md). -/
def State.renameNode (s : State) (i : Fin 30) (old new : Option Nat) : State :=
  if new.isSome && decide (old = new) then s
  else
    let was := (s.machNodeAt i).state
    let s1 := s.modMachNode i MachNode.unheard
    match was, old with
    | .present, some c => s1.handNode (i.val + 1) c true
    | .lost, _ => s1.followNode (i.val + 1) false
    | _, _ => s1

/-- The losses and resets of a slot table put in use (R71); `old` is the part before it was put in use. R71 gives them
no order: node by node in address order, each node reset and its loss handed over before the next node's record is
reset, is a DESIGN CHOICE (notes/assumptions/22.md). A run whose trailer the old pump node's loss ends thus evaluates
its waiting rules (R160) against the records as they stand then, a new pump node at a higher address still PRESENT
from its old content among them. -/
def State.renameNodes (s old : State) : State :=
  ((Bank.indices 30).foldl (fun t i =>
    t.renameNode i (old.contentKind (i.val + 1)) (s.contentKind (i.val + 1))) s).evalMachLost

/-- A slot table image becomes the table in use (R71). -/
def State.installSlotTable (s : State) (image : Bytes) : State :=
  let s1 := s.modSlot 4 fun t => { t with image := image, crc := crc16 image, valid := true }
  ((s1.withMach { s1.mach with pendingTable := none }).evalTableMissing).renameNodes s

/-- The pending slot table, if there is one, is put in use (R71). -/
def State.installPending (s : State) : State :=
  match s.mach.pendingTable with
  | none => s
  | some b => s.installSlotTable b

/-- An accepted slot table (R71): pending while a cycle runs, otherwise put in use at once with the first
cycle. -/
def State.acceptSlotTable (s : State) (image : Bytes) : State :=
  if s.mach.running then s.withMach { s.mach with pendingTable := some image }
  else (s.installSlotTable image).startMachinery

/-! ## The commands of the machinery line -/

/-- A cycle boundary (R66): the pending table is put in use, the count advances, and the new cycle begins. -/
def State.boundary (s : State) : State :=
  let s1 := s.installPending
  match s1.tableImage 4 with
  | none => s1
  | some b => s1.beginCycle b ((s1.mach.cycleCount + 1) % 65536)

/-- CYCLE_BOUNDARY (R66): while a cycle runs and its last window has closed, the next boundary falls at its
due moment. -/
def execCycleBoundary (e : Env) (s : State) : Host.Outcome State Fault Refusal :=
  let s1 := s.enter e
  .next (
    if s1.mach.running && s1.mach.window.isNone then (s1.reach s1.mach.nextBoundary).boundary else s1)

/-- The last fired window of a cycle closes after the next boundary is due: the boundary waits for it and
one overrun is counted (R66). -/
def State.noteOverrun (s : State) : State :=
  if s.mach.window.isNone && decide (s.mach.nextBoundary < s.now) then
    (s.withMach { s.mach with nextBoundary := s.now }).withLines
      { s.lines with machOverruns := bump s.lines.machOverruns }
  else s

/-- A slot window closes at this moment: a slot that expected a report and took none has missed, and the
next slot that fires opens (R66, R74). -/
def State.closeWindow (s : State) (w : MachWindow) : State :=
  let s1 := s.withMach { s.mach with window := none }
  let s2 :=
    if w.kind = .command ∨ w.taken = true then s1 else s1.nodeMiss w.node w.content
  s2.fireNext.noteOverrun

/-- MACHINERY_WINDOW_CLOSE (R74). -/
def execMachineryWindowClose (e : Env) (s : State) : Host.Outcome State Fault Refusal :=
  let s1 := s.enter e
  .next (match s1.mach.window with
    | none => s1
    | some w => (s1.reach w.closeAt).closeWindow w)

/-- The window in which a report may be taken at this moment (R74, R75): that of an EXCHANGE or CALL slot
which has not closed. -/
def State.reportWindow (s : State) : Option MachWindow :=
  match s.mach.window with
  | none => none
  | some w =>
    if w.kind ≠ .command ∧ w.openAt ≤ s.now ∧ s.now ≤ w.closeAt then some w else none

/-- A slot's good report (R74): the window has taken its report, and the report counts and is handed over; a
field it does not carry has a free value. -/
def State.takeReport (s : State) (w : MachWindow) (payload : Bytes) : State :=
  let r := s.wholeReport (reportFields w.content) payload
  (r.2.withMach { r.2.mach with window := some { w with taken := true } }).nodeReport w.node w.content r.1

/-- MACHINERY_REPORT (R74, R75, R192): the slot's good report, or a frame discarded and counted: late outside an open
EXCHANGE or CALL window, wrong source inside one where its source or its kind is not the slot's, stray where the
window has taken its report. A meter or gauge report whose length disagrees with its entry count counts as of the
wrong kind (section 11.4). A report that an open window might take but that answers an earlier frame of the part is
late: it counts for no later slot of its node, and the window it was meant for has closed (R75, R81). That one which
does not fit the open window is of a wrong source by R75's table, also after a control restart, is a DESIGN CHOICE
(notes/assumptions/20.md). -/
def execMachineryReport (e : Env) (dst src kind : Nat) (payload : Bytes) (s : State) :
    Host.Outcome State Fault Refusal :=
  let s1 := s.enter e
  .next (
    if dst ≠ Config.fieldAddress then s1
    else if isReportKind kind = false then s1.countMachineryDiscarded
    else
      match s1.reportWindow with
      | none => s1.countMachineryLate
      | some w =>
        if src ≠ w.node then s1.countMachineryWrongSource
        else if kind ≠ reportKindOf w.content ∨ entriesAgree kind payload = false then
          s1.countMachineryWrongSource
        else if w.taken then s1.countMachineryStray
        else if answersEarlier s1.sent.machinery e.answers = true then s1.countMachineryLate
        else s1.takeReport w payload)

/-! ## Resets (R81, R82) -/

/-- The scheduler's values after either reset, before its first cycle (R82); a pending table is put in use by
the control restart first. -/
def State.resetMach (s : State) : State := s.withMach {}

/-- The pending table at a control restart becomes the table in use (R81). Its node losses have no effect,
since every node record and every owner is reset with it. -/
def State.restartSlotTable (s : State) : State :=
  match s.mach.pendingTable with
  | none => s
  | some b => s.modSlot 4 fun t => { t with image := b, crc := crc16 b, valid := true }

end Sys2Proof.Machine
end

