-- ==== Sys2Proof/Machine/Loads.lean ====
section
/-! DEFINITION. The load buffer and the waiting-load slot (section 10.4): the checks of LOAD BEGIN, opening the
buffer, taking the waiting BEGIN, LOAD DATA, and the inactivity timer. -/

namespace Sys2Proof.Machine

/-- The rights group of a table id 1–13 (section 10.1). -/
def tableGroup (table : Nat) : Rights :=
  match table with
  | 1 => .sys
  | 2 => .prop
  | 3 => .prop
  | 4 => .prop
  | 5 => .prop
  | 9 => .fuel
  | 10 => .fuel
  | 13 => .sys
  | _ => .nav

/-- The largest image of a table id 1–13, bytes (section 10.1). -/
def largestImage (table : Nat) : Nat :=
  match table with
  | 1 => 64
  | 2 => 128
  | 3 => 512
  | 4 => 256
  | 5 => 512
  | 6 => 512
  | 7 => 1024
  | 8 => 64
  | 9 => 1024
  | 10 => 256
  | 11 => 512
  | 12 => 256
  | 13 => 64
  | _ => 0

/-- The checks of LOAD BEGIN, in order (R180); `none` when every check passes. -/
def State.beginRefusal (s : State) (station table length : Nat) : Option Status :=
  if table = 0 ∨ 13 < table then some .range
  else if s.holdsRight station (tableGroup table) = false then some .rights
  else if length = 0 ∨ largestImage table < length then some .range
  else none

/-- The buffer opens for a station (R180). -/
def State.openBuffer (s : State) (station table length : Nat) : State :=
  s.withStore { s.store with
    buffer := some
      { owner := station, table := table, bytes := List.replicate length 0
        deadline := s.now + Config.loadInactivityTime } }

/-- The buffer frees and its contents are discarded. -/
def State.freeBuffer (s : State) : State := s.withStore { s.store with buffer := none }

/-- The request at the head leaves the queue, and the next one comes to the head (R178). -/
def State.dequeue (s : State) : State :=
  s.withStore { s.store with queue := s.store.queue.tail, head := .waiting }

/-- The request a waiting LOAD BEGIN came from. -/
def WaitingLoad.request (w : WaitingLoad) : MgmtRequest :=
  { station := w.station, kind := 0x01, tag := w.tag, fields := [] }

/-- The BEGIN in the waiting-load slot is taken out and handled as one against a free buffer (R182). -/
def State.takeWaiting (s : State) : State :=
  match s.store.waitingLoad with
  | none => s
  | some w =>
    let s1 := s.withStore { s.store with waitingLoad := none }
    match s1.beginRefusal w.station w.table w.length with
    | some st => s1.composeReply w.request st [] false
    | none => (s1.openBuffer w.station w.table w.length).composeReply w.request .ok [] false

/-- LOAD BEGIN against a buffer held by another station (R180): into the waiting-load slot, in place of the
sender's waiting BEGIN, or refused BUSY. -/
def State.beginHeld (s : State) (station tag table length : Nat) : State :=
  let place (t : State) : State :=
    (t.withStore { t.store with
      waitingLoad := some { station := station, tag := tag, table := table, length := length } }).dequeue
  match s.store.waitingLoad with
  | none => place s
  | some w =>
    if w.station = station then place (s.composeReply w.request .busy [] false)
    else s.answerHead .busy [] .nothing

/-- LOAD BEGIN served (R180, R182). -/
def State.loadBegin (s : State) (station tag table length : Nat) : State :=
  match s.store.buffer with
  | none =>
    match s.beginRefusal station table length with
    | some st => s.answerHead st [] .nothing
    | none => (s.openBuffer station table length).answerHead .ok [] .nothing
  | some b =>
    if b.owner = station then
      let s1 := s.freeBuffer
      match s1.beginRefusal station table length with
      | some st => s1.answerHead st [] .takeWaiting
      | none => (s1.openBuffer station table length).answerHead .ok [] .nothing
    else s.beginHeld station tag table length

/-- The buffer of its owner `station`, if that station owns it (R181, R183). -/
def State.ownBuffer (s : State) (station : Nat) : Option LoadBuffer :=
  match s.store.buffer with
  | none => none
  | some b => if b.owner = station then some b else none

/-- LOAD DATA served (R181, R182). -/
def State.loadData (s : State) (station offset : Nat) (data : Bytes) : State :=
  match s.ownBuffer station with
  | none => s.answerHead .notOpen [] .nothing
  | some b =>
    let b1 := { b with deadline := s.now + Config.loadInactivityTime }
    if b.bytes.length < offset + data.length then
      (s.withStore { s.store with buffer := some b1 }).answerHead .range [] .nothing
    else
      (s.withStore { s.store with buffer := some { b1 with bytes := overwrite b.bytes offset data } }).answerHead
        .ok [] .nothing

/-- What a head whose reply is still to be sent has left to do once the load is abandoned: a LOAD END's buffer
is already free (R182). -/
def HeadState.afterAbandon (h : HeadState) : HeadState :=
  match h with
  | .answered .freeBuffer => .answered .nothing
  | x => x

/-- The inactivity timer expires (R182): the load is abandoned and the waiting BEGIN is taken. -/
def State.abandonLoad (s : State) : State :=
  (s.withStore { s.store with buffer := none, head := s.store.head.afterAbandon }).takeWaiting

/-- LOAD_INACTIVITY_TIMEOUT (R182). -/
def execLoadInactivityTimeout (e : Env) (s : State) : Host.Outcome State Fault Refusal :=
  let s1 := s.enter e
  .next (match s1.store.buffer with
    | none => s1
    | some b => (s1.reach b.deadline).abandonLoad)

/-- The reply to the request at the head of the queue has been sent: the request leaves the queue, and what
the reply's request asked for after it follows (R178, R182, R183, R185). -/
def State.replySent (s : State) : State :=
  match s.store.head with
  | .answered .nothing => s.dequeue
  | .answered .takeWaiting => s.dequeue.takeWaiting
  | .answered .freeBuffer => s.dequeue.freeBuffer.takeWaiting
  | .answered .restart => s.dequeue.withStore { s.dequeue.store with restartDue := true }
  | _ => s

end Sys2Proof.Machine
end

