-- ==== Sys2Proof/Machine/StationLine.lean ====
section
/-! DEFINITION. The station line's sending side (R19, R20, R193) and the receivers' discards on all three lines
(R191, R192). -/

namespace Sys2Proof.Machine

/-! ## The follow-up frame (R20, section 11.3) -/

/-- A station's address, 0x00 for none. -/
def addressOf (x : Option (Fin 4)) : Nat :=
  match x with
  | none => 0
  | some n => n.val + 1

/-- Four four-bit values in two bytes, the first in the high half of the first byte. -/
def nibbles (f : Fin 4 → Nat) : Bytes := [byte (16 * f 0 + f 1), byte (16 * f 2 + f 3)]

/-- The payload of a follow-up frame composed now (R20). -/
def State.followUpPayload (s : State) : Bytes :=
  let v := s.station.inUse
  [byte (addressOf s.station.holder), byte (addressOf s.station.requester)]
    ++ (Bank.indices 4).flatMap (fun c => beInt 2 v.levers[c.val])
    ++ beInt 2 v.steering ++ beInt 2 v.flanking
    ++ [byte ((s.publishedGear 0).code + 4 * (s.publishedGear 1).code + 16 * (s.publishedGear 2).code
          + 64 * (s.publishedGear 3).code)]
    ++ nibbles (fun n => (s.engineState n).code)
    ++ beBytes 2 s.coup.cTow
    ++ [byte (s.coup.mode.code + 16 * s.transfer.state.code), byte s.summaryCode, byte s.summaryCount]
    ++ nibbles (fun n => (s.stationAt n).result.code)

/-- A follow-up frame composed now: kind 0x04 to the broadcast address (R19). -/
def State.followUpFrame (s : State) : Frame :=
  { dst := Config.broadcast, src := s.ownAddress, kind := 0x04, payload := s.followUpPayload }

/-! ## Idle gaps (R193) -/

/-- The waiting follow-up frame goes, composed as it is sent (R19). -/
def State.sendFollowUp (s : State) : State :=
  (s.withTx { s.tx with followUps := s.tx.followUps - 1 }).sendStation s.followUpFrame false

/-- The first waiting reply goes; the reply to the request at the head of the queue ends that request. -/
def State.sendReply (s : State) : State :=
  match s.tx.replies with
  | [] => s
  | r :: rest =>
    let s1 := (s.withTx { s.tx with replies := rest }).sendStation (r.frame s.ownAddress) false
    if r.head then s1.replySent else s1

/-- An idle gap of three byte times (R193): the frame to be sent once more, a follow-up frame, or a reply;
when a follow-up frame and a reply are both waiting, a free choice says which goes first. -/
def State.idleGap (s : State) : State :=
  match s.tx.retry with
  | some f => (s.withTx { s.tx with retry := none }).sendStation f true
  | none =>
    if s.tx.followUps = 0 then s.sendReply
    else if s.tx.replies.isEmpty then s.sendFollowUp
    else
      let c := s.gapChoice
      if c.1 then c.2.sendFollowUp else c.2.sendReply

/-- STATION_LINE_IDLE_GAP (R193). -/
def execStationLineIdleGap (e : Env) (s : State) : Host.Outcome State Fault Refusal :=
  .next (s.enter e).idleGap

/-- The scheduled moment of a follow-up frame (R19): the frame waits for the line, and the next moment stands
100 ms after this one. -/
def State.scheduleFollowUp (s : State) : State :=
  let s1 := (s.reach s.station.followUpNext).withStation { s.station with
    followUpNext := s.station.followUpNext + Config.followUpSpacing }
  s1.withTx { s1.tx with followUps := s1.tx.followUps + 1 }

/-- FOLLOW_UP_FRAME (R19): at its scheduled moment the frame goes at once if the line is free, which is an
idle gap, and otherwise waits for one. -/
def execFollowUpFrame (e : Env) (lineFree : Bool) (s : State) : Host.Outcome State Fault Refusal :=
  let s1 := (s.enter e).scheduleFollowUp
  .next (if lineFree then s1.idleGap else s1)

/-- The frame being sent is abandoned (R193): a first attempt is sent once more after the next idle gap, a
second is dropped and counted. -/
def State.readbackFails (s : State) : State :=
  match s.tx.last with
  | none => s
  | some f =>
    let s1 := (s.withSent { s.sent with station := s.sent.station.tail }).withTx { s.tx with last := none }
    if f.second then s1.withLines { s1.lines with stationTransmit := bump s1.lines.stationTransmit }
    else s1.withTx { s1.tx with retry := some f.frame }

/-- TRANSMIT_READBACK_MISMATCH (R193). -/
def execTransmitReadbackMismatch (e : Env) (s : State) : Host.Outcome State Fault Refusal :=
  .next (s.enter e).readbackFails

/-! ## Discards (R191, R192) -/

/-- A counter of a line check grows (R191). -/
def BasicCounters.count (c : BasicCounters) (check : LineCheck) : BasicCounters :=
  match check with
  | .framing => { c with framing := bump c.framing }
  | .length => { c with length := bump c.length }
  | .crc => { c with crc := bump c.crc }

/-- A frame on a line fails a check (R191). -/
def LineCounters.fail (l : LineCounters) (line : Line) (check : LineCheck) : LineCounters :=
  match line with
  | .station => { l with station := l.station.count check }
  | .machinery => { l with machinery := l.machinery.count check }
  | .tow => { l with tow := l.tow.count check }

/-- Whether the receiver took every one of the next `n` bytes with a valid stop bit and, but for a frame's first
byte, without a gap of more than one and a half byte times before it (R191); `first` says that the frame
begins with them. -/
def framed (first : Bool) (n : Nat) (run : List RxByte) : Bool :=
  n ≤ run.length && ((run.take n).zipIdx).all fun p => p.1.stop && (!p.1.gap || (first && p.2 == 0))

/-- What the line checks say of the bytes taken between two idle gaps (R191): framing as far as the length byte,
the length byte itself, framing as far as the frame's last byte, the CRC. The frame passes where it answers
none. -/
def lineCheck (run : List RxByte) : Option LineCheck :=
  let bytes := run.map (·.value)
  let n := byteAt bytes 3
  if framed true 4 run = false then some .framing
  else if 28 < n then some .length
  else if framed false (n + 2) (run.drop 4) = false then some .framing
  else if crc16 (bytes.take (4 + n)) ≠ u16 bytes (4 + n) then some .crc
  else none

/-- Whether bytes follow a frame's CRC before the line is idle (R191): the frame came whole, and they count as
one further framing error. A frame that failed before its end takes the rest of the bytes with it. -/
def bytesFollow (run : List RxByte) : Bool :=
  let n := byteAt (run.map (·.value)) 3
  (lineCheck run = none || lineCheck run = some .crc) && decide (n + 6 < run.length)

/-- The counters of a line after a run of bytes (R191). -/
def LineCounters.receive (l : LineCounters) (line : Line) (run : List RxByte) : LineCounters :=
  let l1 := match lineCheck run with
    | none => l
    | some check => l.fail line check
  if bytesFollow run then l1.fail line .framing else l1

/-- LINE_CHECK_FAILURE (R191): a frame that fails a check is discarded and counted. A frame that passes the
checks comes to the part by its own row, and leaves only what follows it to be counted here. -/
def execLineCheckFailure (e : Env) (line : Line) (run : List RxByte) (s : State) :
    Host.Outcome State Fault Refusal :=
  let s1 := s.enter e
  .next (s1.withLines (s1.lines.receive line run))

/-- A frame that passed the line checks and that no block takes (R192): counted when it is addressed to the
part, ignored otherwise. A frame that a block does take is none of this rule's. That on the tow line a frame of another
kind than POLL REPLY and ACCESS ANSWER is discarded also inside an open reply window, where R87's table would call it of
a wrong source or malformed, is a DESIGN CHOICE (notes/assumptions/19.md). -/
def State.discard (s : State) (line : Line) (dst src kind : Nat) : State :=
  match line with
  | .station =>
    if dst = s.ownAddress ∧ (¬(kind = 0x01 ∨ kind = 0x02) ∨ s.fittedStation src = none) then
      s.countStationDiscarded
    else s
  | .machinery =>
    if dst = Config.fieldAddress ∧ isReportKind kind = false then s.countMachineryDiscarded else s
  | .tow =>
    if dst = Config.fieldAddress ∧ ¬(kind = 0x21 ∨ kind = 0x23) then s.countTowDiscarded else s

/-- DISCARDED_FRAME (R192). -/
def execDiscardedFrame (e : Env) (line : Line) (dst src kind : Nat) (s : State) :
    Host.Outcome State Fault Refusal :=
  .next ((s.enter e).discard line dst src kind)

end Sys2Proof.Machine
end

