-- ==== Sys2Proof/Machine/Management.lean ====
section
/-! DEFINITION. The table store's management queue (R178, R179) and every request it serves: tables loaded and
put in use (R183, R184), readouts, the requests of other blocks, CLEAR COUNTERS, RESTART, and the scrub
(R188). -/

namespace Sys2Proof.Machine

/-! ## Arrival (R178) -/

/-- A request joins the queue, or is answered BUSY at once when the queue holds 4 (R178). -/
def State.arrive (s : State) (r : MgmtRequest) : State :=
  if s.store.queue.length < 4 then s.withStore { s.store with queue := s.store.queue ++ [r] }
  else s.composeReply r .busy [] false

/-- The request a management frame's payload carries (section 11.3); a payload that ends before its tag is
marked as short. -/
def requestOf (station : Nat) (payload : Bytes) : MgmtRequest where
  station := station
  kind := byteAt payload 0
  tag := byteAt payload 1
  fields := payload.drop 2
  short := payload.length < 2

/-- A management frame's payload taken (R178). -/
def State.takeRequest (s : State) (station : Nat) (payload : Bytes) : State :=
  s.arrive (requestOf station payload)

/-- MANAGEMENT_FRAME (R178, R177, R192). -/
def execManagementFrame (e : Env) (dst src : Nat) (payload : Bytes) (s : State) :
    Host.Outcome State Fault Refusal :=
  let s1 := s.enter e
  .next (
    if dst ≠ s1.ownAddress then s1
    else if (s1.fittedStation src).isNone then s1.countStationDiscarded
    else (s1.countStationGood).takeRequest src payload)

/-! ## Serving the head of the queue (R178) -/

/-- A request that is named while the queue is empty first arrives, as its frame would (R178). -/
def State.bringIn (s : State) (r : MgmtRequest) : State :=
  if s.store.queue.isEmpty then
    if (s.fittedStation r.station).isNone then s.countStationDiscarded
    else (s.countStationGood).arrive r
  else s

/-- A request as its row names it: its sender, kind, tag and fields. -/
def MgmtRequest.named (r : MgmtRequest) : MgmtRequest := { r with short := false }

/-- The request `r` is served by `f` when it stands at the head of the queue and has not been served yet
(R178); nothing is served once the OK reply to RESTART has been sent (R185). -/
def State.serve (s : State) (r : MgmtRequest) (f : State → State) : State :=
  if s.store.restartDue then s
  else
    let s1 := s.bringIn r
    if s1.store.queue.head?.map MgmtRequest.named = some r ∧ s1.store.head = .waiting then f s1 else s1

/-- Whether the request at the head of the queue ends before its tag, so that its length fits no kind. -/
def State.headShort (s : State) : Bool := s.store.queue.head?.any (·.short)

/-- A request's length is looked at first (R178), then the rights it requires (R177), and only then what the request
asks for: a LOAD BEGIN, LOAD DATA or LOAD END whose payload length does not fit its kind is answered RANGE whoever
owns the buffer, and one of the owner discards no load and restarts no inactivity timer (R180, R182): DESIGN CHOICE
(notes/assumptions/5.md). -/
def State.checked (s : State) (r : MgmtRequest) (g : Option Rights) (f : State → State) : State :=
  if s.headShort = true ∨ fieldsFit r.kind r.fields.length = false then s.answerHead .range [] .nothing
  else
    match g with
    | none => f s
    | some g => if s.holdsRight r.station g then f s else s.answerHead .rights [] .nothing

/-- A request row of the table of operations: the request of `kind` is served under its checks. -/
def State.request (s : State) (kind station tag : Nat) (fields : Bytes) (g : Option Rights)
    (f : State → State) : State :=
  let r : MgmtRequest := { station := station, kind := kind, tag := tag, fields := fields }
  s.serve r fun t => t.checked r g f

/-- UNKNOWN_REQUEST (R178): a request of a kind the part does not know. -/
def execUnknownRequest (e : Env) (station kind tag : Nat) (fields : Bytes) (s : State) :
    Host.Outcome State Fault Refusal :=
  let s1 := s.enter e
  .next (
    if kindKnown kind then s1
    else s1.serve { station := station, kind := kind, tag := tag, fields := fields } fun t =>
      t.answerHead .unknown [] .nothing)

/-! ## Loads (R180 to R184) -/

/-- LOAD_BEGIN (R180). -/
def execLoadBegin (e : Env) (station tag : Nat) (fields : Bytes) (s : State) :
    Host.Outcome State Fault Refusal :=
  .next ((s.enter e).request 0x01 station tag fields none fun t =>
    t.loadBegin station tag (byteAt fields 0) (u16 fields 1))

/-- LOAD_DATA (R181). -/
def execLoadData (e : Env) (station tag : Nat) (fields : Bytes) (s : State) :
    Host.Outcome State Fault Refusal :=
  .next ((s.enter e).request 0x02 station tag fields none fun t =>
    t.loadData station (u16 fields 0) (fields.drop 2))

/-- Requests waiting behind the one being served, and a waiting BEGIN, of stations that a new station table
leaves not fitted are discarded without replies (R178). -/
def State.dropUnfitted (s : State) : State :=
  let keep (station : Nat) : Bool := (s.fittedStation station).isSome
  s.withStore { s.store with
    queue := s.store.queue.take 1 ++ (s.store.queue.drop 1).filter fun r => keep r.station
    waitingLoad := match s.store.waitingLoad with
      | none => none
      | some w => if keep w.station then some w else none }

/-- The owning block acts on a table just put in use (R183 step 5); `old` is the part before it. -/
def State.applyTable (s old : State) (id : Fin 13) : State :=
  match id.val + 1 with
  | 1 => s.applyStationTable.dropUnfitted
  | 2 => (s.applyEngineTable old).evalFeedLow
  | 4 => s.applySteeringTable old
  | 6 => s.applyMakeUp
  | 7 => s.applyMakeUp
  | 8 => s.applyTowLimits
  | 9 => s.applyFuelTable old
  | 10 => s.applyTransferTable
  | 12 => s.evalTowInputs
  | _ => s

/-- The slot takes the image, its CRC and validity. -/
def State.takeImage (s : State) (id : Fin 13) (image : Bytes) : State :=
  s.modSlot id fun t => { t with image := image, crc := crc16 image, valid := true }

/-- Steps 4 to 6 of R183: the retained write, the table in use (or pending, for table 5), and the fault flag
with conditions 44 and 45. -/
def State.acceptLoad (s : State) (id : Fin 13) (image : Bytes) : State :=
  let verified := s.tableWriteVerified id
  let s1 := s.writeTable id image (crc16 image)
  let s2 := if id = 4 then s1.acceptSlotTable image else (s1.takeImage id image).applyTable s1 id
  let s3 := s2.modSlot id fun t => { t with fault := !verified }
  s3.evalTableFault.evalTableMissing

/-- Index 0–12 of a table id 1–13. -/
def tableIx? (table : Nat) : Option (Fin 13) :=
  if 1 ≤ table ∧ table ≤ 13 then some (Fin.ofNat 13 (table - 1)) else none

/-- LOAD END from the buffer's owner (R183); the buffer frees when the reply is sent. -/
def State.endLoad (s : State) (b : LoadBuffer) (crc : Nat) : State :=
  match tableIx? b.table with
  | none => s.answerHead .range [] .freeBuffer
  | some id =>
    if crc16 b.bytes ≠ crc then s.answerHead .crc [] .freeBuffer
    else if s.tableChecks id b.bytes = false then s.answerHead .badTable [] .freeBuffer
    else if s.applyPoint id b.bytes = false then s.answerHead .state [] .freeBuffer
    else (s.acceptLoad id b.bytes).answerHead .ok [] .freeBuffer

/-- LOAD END served (R183); one taken from the owner restarts the inactivity timer (R182). -/
def State.loadEnd (s : State) (station crc : Nat) : State :=
  match s.ownBuffer station with
  | none => s.answerHead .notOpen [] .nothing
  | some b =>
    (s.withStore { s.store with
      buffer := some { b with deadline := s.now + Config.loadInactivityTime } }).endLoad b crc

/-- LOAD_END (R183). -/
def execLoadEnd (e : Env) (station tag : Nat) (fields : Bytes) (s : State) :
    Host.Outcome State Fault Refusal :=
  .next ((s.enter e).request 0x03 station tag fields none fun t => t.loadEnd station (u16 fields 0))

/-! ## Readouts (R173, R179) -/

/-- The standing of a slot as READ TABLE of length 0 gives it: image length, CRC, and the flags VALID, fault
and, for table 5, pending (section 11.3). -/
def State.slotStanding (s : State) (id : Fin 13) : Bytes :=
  let t := s.slot id
  beBytes 2 t.image.length ++ beBytes 2 t.crc
    ++ [byte (bitsToNat [t.valid, t.fault, id == 4 && s.mach.pendingTable.isSome])]

/-- READ TABLE served (R179). -/
def State.readTable (s : State) (table offset length : Nat) : State :=
  match tableIx? table with
  | none => s.answerHead .range [] .nothing
  | some id =>
    if length = 0 then s.answerHead .ok (s.slotStanding id) .nothing
    else if (s.slot id).valid = false then s.answerHead .state [] .nothing
    else if 24 < length ∨ (s.slot id).image.length < offset + length then s.answerHead .range [] .nothing
    else s.answerHead .ok (((s.slot id).image.drop offset).take length) .nothing

/-- READ_TABLE (R179). -/
def execReadTable (e : Env) (station tag : Nat) (fields : Bytes) (s : State) :
    Host.Outcome State Fault Refusal :=
  .next ((s.enter e).request 0x04 station tag fields none fun t =>
    t.readTable (byteAt fields 0) (u16 fields 1) (byteAt fields 3))

/-- READ STATE served (R179). -/
def State.readState (s : State) (group index part : Nat) : State :=
  match (s.record? group index).bind fun b => recordPart b part with
  | none => s.answerHead .range [] .nothing
  | some fields => s.answerHead .ok fields .nothing

/-- READ_STATE (R179). -/
def execReadState (e : Env) (station tag : Nat) (fields : Bytes) (s : State) :
    Host.Outcome State Fault Refusal :=
  .next ((s.enter e).request 0x05 station tag fields none fun t =>
    t.readState (byteAt fields 0) (byteAt fields 1) (byteAt fields 2))

/-- NEXT ALARM served (R173): the highest-priority unacknowledged code, its class, the alarm state it was
found in, and how many stay unacknowledged. -/
def State.nextAlarm (s : State) : State :=
  match s.highestUnacked with
  | none => s.answerHead .ok [0, 0, 0, 0] .nothing
  | some i =>
    let s1 := s.acknowledge i
    s1.answerHead .ok
      [byte (i.val + 1), byte (s.reaction i).cls, byte (s.cond.alarm[i.val]).code, byte s1.unackedCount] .nothing

/-- NEXT_ALARM (R173). -/
def execNextAlarm (e : Env) (station tag : Nat) (fields : Bytes) (s : State) :
    Host.Outcome State Fault Refusal :=
  .next ((s.enter e).request 0x06 station tag fields none State.nextAlarm)

/-! ## Requests of other blocks (R152, R156, R137 to R139, R96) -/

/-- START_TRANSFER (R152). -/
def execStartTransfer (e : Env) (station tag : Nat) (fields : Bytes) (s : State) :
    Host.Outcome State Fault Refusal :=
  .next ((s.enter e).request 0x07 station tag fields (some .fuel) fun t =>
    t.startTransfer (byteAt fields 0) (byteAt fields 1) (u32 fields 2))

/-- ABORT_TRANSFER (R156). -/
def execAbortTransfer (e : Env) (station tag : Nat) (fields : Bytes) (s : State) :
    Host.Outcome State Fault Refusal :=
  .next ((s.enter e).request 0x08 station tag fields (some .fuel) State.abortTransfer)

/-- BUNKER_RECEIPT (R137). -/
def execBunkerReceipt (e : Env) (station tag : Nat) (fields : Bytes) (s : State) :
    Host.Outcome State Fault Refusal :=
  .next ((s.enter e).request 0x09 station tag fields (some .fuel) fun t =>
    t.bunkerReceipt (byteAt fields 0) (u32 fields 1))

/-- SET_TANK_BOOK (R138). -/
def execSetTankBook (e : Env) (station tag : Nat) (fields : Bytes) (s : State) :
    Host.Outcome State Fault Refusal :=
  .next ((s.enter e).request 0x0A station tag fields (some .fuel) fun t =>
    t.setTankBook station (byteAt fields 0) (byteAt fields 1) (u32 fields 2))

/-- ZERO_CONSUMER (R139). -/
def execZeroConsumer (e : Env) (station tag : Nat) (fields : Bytes) (s : State) :
    Host.Outcome State Fault Refusal :=
  .next ((s.enter e).request 0x0B station tag fields (some .fuel) fun t => t.zeroConsumer (byteAt fields 0))

/-- TOW NODE ACCESS served (R96): a direction other than READ and WRITE, or data with a READ, is out of
range. -/
def State.towNodeAccess (s : State) (address direction offset length : Nat) (data : Bytes) : State :=
  if 1 < direction ∨ (direction = 0 ∧ data ≠ []) then s.answerHead .range [] .nothing
  else
    s.takeAccess
      { address := address, write := decide (direction = 1), offset := offset, length := length, data := data }

/-- TOW_NODE_ACCESS (R96). -/
def execTowNodeAccess (e : Env) (station tag : Nat) (fields : Bytes) (s : State) :
    Host.Outcome State Fault Refusal :=
  .next ((s.enter e).request 0x0C station tag fields (some .nav) fun t =>
    t.towNodeAccess (byteAt fields 0) (byteAt fields 1) (byteAt fields 2) (byteAt fields 3) (fields.drop 4))

/-! ## CLEAR COUNTERS and RESTART (R179, R185) -/

/-- CLEAR COUNTERS served (R179): the line counters, the total misses of every machinery and tow node, the
idle pulse count, and the retained store's counters become 0. -/
def State.clearCounters (s : State) : State :=
  let s1 := s.withLines {}
  let s2 := s1.withMach { s1.mach with nodes := s1.mach.nodes.map fun n => { n with total := 0 } }
  let s3 := s2.withTowLine { s2.towLine with nodes := s2.towLine.nodes.map fun n => { n with total := 0 } }
  let s4 := s3.withTransfer { s3.transfer with idleCount := 0 }
  (s4.withStore { s4.store with corrected := 0, writeFailures := 0 }).answerHead .ok [] .nothing

/-- CLEAR_COUNTERS (R179). -/
def execClearCounters (e : Env) (station tag : Nat) (fields : Bytes) (s : State) :
    Host.Outcome State Fault Refusal :=
  .next ((s.enter e).request 0x0D station tag fields (some .sys) State.clearCounters)

/-- RESTART (R185): answered OK, with the control restart to follow once the reply has been sent. -/
def execRestart (e : Env) (station tag : Nat) (fields : Bytes) (s : State) :
    Host.Outcome State Fault Refusal :=
  .next ((s.enter e).request 0x0E station tag fields (some .sys) fun t => t.answerHead .ok [] .restart)

/-! ## The scrub (R188) -/

/-- Whether a table's region of the retained store passes a check: a whole copy whose CRC is the one stored
with it (R187, R188). -/
def retainedSound (r : Option RetainedTable) : Bool :=
  match r with
  | none => false
  | some c => !c.damaged && crc16 c.image == c.crc

/-- The check of one VALID table (R186, R188): a mismatch or an uncorrectable word sets its fault flag. -/
def State.scrubSlot (s : State) (id : Fin 13) (found : ScrubRead) : State :=
  let s1 := s.countCorrected found.corrected
  if found.uncorrectable || !retainedSound s1.store.retained.tables[id.val] then
    (s1.modSlot id fun t => { t with fault := true }).evalTableFault
  else s1

/-- SCRUB_CHECK (R188): 4.6 s after the last check, the next slot's turn; an INVALID slot's turn passes
without a check. -/
def execScrubCheck (e : Env) (found : ScrubRead) (s : State) : Host.Outcome State Fault Refusal :=
  let s1 := (s.enter e).reach (s.store.scrubLast + Config.scrubSpacing)
  let id := s1.store.scrubNext
  let s2 := s1.withStore { s1.store with scrubNext := id + 1, scrubLast := s1.now }
  .next (if (s2.slot id).valid then s2.scrubSlot id found else s2)

end Sys2Proof.Machine
end

