-- ==== Sys2Proof/Machine/Reset.lean ====
section
/-! DEFINITION. The two kinds of reset: the cold start (R189, R190) and the control restart (R185), with every
block's values after each. -/

namespace Sys2Proof.Machine

/-! ## Hand-overs after either reset (R175) -/

/-- Every source flag clear and every alarm state NORMAL (R175). -/
def State.resetCond (s : State) : State := s.withCond {}

/-- The sources that can stand active after a reset, handed over by their owners (R175). -/
def State.handStanding (s : State) : State :=
  ((((s.evalBow).evalFeedLow).evalAccountInvalid).evalTableFault).evalTableMissing

/-! ## The control restart (R185, R190) -/

/-- The table store at a control restart: the load abandoned, the queue and the waiting-load slot emptied;
everything else is kept (R185, R190). -/
def State.restartStore (s : State) : State :=
  s.withStore { s.store with
    buffer := none, waitingLoad := none, queue := [], head := .waiting, restartDue := false }

/-- The station line's sending side at a control restart: composed replies go on waiting, and the follow-up
schedule begins anew (R19). The waiting follow-up frames are dropped, but a follow-up frame that has begun to leave
once and awaits its second attempt is sent after the restart, as a reply is: DEDUCED (notes/assumptions/6.md). -/
def State.restartTx (s : State) : State := s.withTx { s.tx with followUps := 0 }

/-- The control restart of every block (R185): R162, R190, R81, R175, R22, R49, R65, R82, R100, R125, R147 in
turn, the standing sources, and the machinery and tow lines' first cycles. -/
def State.controlRestart (s : State) : State :=
  let s1 := (((s.restartTransfer).restartStore).restartTx).restartSlotTable
  let s2 := ((s1.resetCond).resetStations).resetProp
  let s3 := ((s2.resetSteer true).resetMach).resetTow
  let s4 := ((s3.resetCoupling s3.coup.mode).restartFuel).handStanding
  (s4.startMachinery).startTow

/-- CONTROL_RESTART (R185): taken once the OK reply to RESTART has been sent. -/
def execControlRestart (e : Env) (s : State) : Host.Outcome State Fault Refusal :=
  let s1 := s.enter e
  .next (if s1.store.restartDue then s1.controlRestart else s1)

/-! ## The cold start (R189, R190) -/

/-- A table slot as cold start verification leaves it (R189); `bad` says that its region contains an
uncorrectable word, `held` that THOLD is set. The image of a slot found bad, and that a slot shows no image and
checksum 0 while THOLD is set, which R189 leaves unread and R190 as found, are DESIGN CHOICES
(notes/assumptions/13.md). -/
def verifySlot (held bad : Bool) (r : Option RetainedTable) : TableSlot :=
  if held then {}
  else
    match r with
    | none => {}
    | some c =>
      if bad || !retainedSound (some c) then { image := c.image, crc := c.crc, valid := false, fault := true }
      else { image := c.image, crc := c.crc, valid := true, fault := false }

/-- The table store after a cold start (R189, R190), on the retained store as it stands. -/
def TableStore.coldStart (t : TableStore) (held : Bool) (found : ColdRead) (now : Moment) : TableStore where
  slots := Vector.ofFn fun id : Fin 13 =>
    verifySlot held (decide (id.val + 1 ∈ found.tables)) t.retained.tables[id.val]
  corrected := min 65535 found.corrected
  scrubLast := now
  retained := t.retained

/-- The split mode a cold start restores (R126): NORMAL where none has ever been written (R189), SPLIT where
its word cannot be corrected. -/
def restoredMode (damaged : Bool) (r : Retained) : SplitMode :=
  match r.splitMode with
  | none => .normal
  | some m => if damaged then .split else m

/-- The cold start (R189): straps, verification, every block's cold-start values, the retained fuel, transfer
and split-mode state, the standing sources, and the lines. -/
def State.coldStart (s : State) (straps : Straps) (found : ColdRead) : State :=
  let s0 := ((s.withEpoch s.now).withStraps straps).withStore (s.store.coldStart straps.thold found s.now)
  let s1 := ((((s0.withLines {}).withTx {}).resetCond).resetStations).resetProp
  let s2 := ((s1.resetSteer false).resetMach).resetTow
  let s3 := s2.restoreFuel found.accounts found.books
  let s4 := s3.restoreTransfer found.history found.counter
  let s5 := s4.resetCoupling (restoredMode found.splitMode s4.store.retained)
  ((s5.handStanding).startMachinery).startTow

/-- COLD_START (R189): power-up, or assertion of RESET, in any state. -/
def execColdStart (e : Env) (straps : Straps) (found : ColdRead) (s : State) :
    Host.Outcome State Fault Refusal :=
  .next ((s.enter e).coldStart straps found)

end Sys2Proof.Machine
end

