-- ==== Sys2Proof/Machine/Dispatch.lean ====
section
/-! DEFINITION. What each command does to everything but the queue: one arm per row of the table. -/

namespace Sys2Proof.Machine

def exec (i : Instr) (s : State) : Host.Outcome State Fault Refusal :=
  match i with
  | .coldStart e straps found => Sys2Proof.Machine.execColdStart e straps found s
  | .controlRestart e => Sys2Proof.Machine.execControlRestart e s
  | .helmFrame e dst src payload => Sys2Proof.Machine.execHelmFrame e dst src payload s
  | .noneEvent e station count code => Sys2Proof.Machine.execNoneEvent e station count code s
  | .take e station count => Sys2Proof.Machine.execTake e station count s
  | .release e station count => Sys2Proof.Machine.execRelease e station count s
  | .refuse e station count => Sys2Proof.Machine.execRefuse e station count s
  | .seize e station count => Sys2Proof.Machine.execSeize e station count s
  | .syncOn e station count channel => Sys2Proof.Machine.execSyncOn e station count channel s
  | .syncOff e station count channel => Sys2Proof.Machine.execSyncOff e station count channel s
  | .ack e station count => Sys2Proof.Machine.execAck e station count s
  | .split e station count => Sys2Proof.Machine.execSplit e station count s
  | .abortSplit e station count => Sys2Proof.Machine.execAbortSplit e station count s
  | .recouple e station count => Sys2Proof.Machine.execRecouple e station count s
  | .abortRejoin e station count => Sys2Proof.Machine.execAbortRejoin e station count s
  | .transferStop e station count => Sys2Proof.Machine.execTransferStop e station count s
  | .silenceTimerExpiry e station => Sys2Proof.Machine.execSilenceTimerExpiry e station s
  | .transferTimerExpiry e => Sys2Proof.Machine.execTransferTimerExpiry e s
  | .orphanTimerExpiry e => Sys2Proof.Machine.execOrphanTimerExpiry e s
  | .leverInvalidTimerExpiry e channel => Sys2Proof.Machine.execLeverInvalidTimerExpiry e channel s
  | .followUpFrame e lineFree => Sys2Proof.Machine.execFollowUpFrame e lineFree s
  | .stationLineIdleGap e => Sys2Proof.Machine.execStationLineIdleGap e s
  | .transmitReadbackMismatch e => Sys2Proof.Machine.execTransmitReadbackMismatch e s
  | .lineCheckFailure e line run => Sys2Proof.Machine.execLineCheckFailure e line run s
  | .cycleBoundary e => Sys2Proof.Machine.execCycleBoundary e s
  | .machineryWindowClose e => Sys2Proof.Machine.execMachineryWindowClose e s
  | .machineryReport e dst src kind payload => Sys2Proof.Machine.execMachineryReport e dst src kind payload s
  | .dwellTimerExpiry e engine => Sys2Proof.Machine.execDwellTimerExpiry e engine s
  | .confirmTimerExpiry e engine => Sys2Proof.Machine.execConfirmTimerExpiry e engine s
  | .pollCycleStart e => Sys2Proof.Machine.execPollCycleStart e s
  | .pollWindowClose e => Sys2Proof.Machine.execPollWindowClose e s
  | .pollReply e dst src payload => Sys2Proof.Machine.execPollReply e dst src payload s
  | .accessAnswer e dst src payload => Sys2Proof.Machine.execAccessAnswer e dst src payload s
  | .nodeAccessTimeout e => Sys2Proof.Machine.execNodeAccessTimeout e s
  | .rejoinTimerExpiry e => Sys2Proof.Machine.execRejoinTimerExpiry e s
  | .startConfirmTimerExpiry e => Sys2Proof.Machine.execStartConfirmTimerExpiry e s
  | .trailerTimerExpiry e => Sys2Proof.Machine.execTrailerTimerExpiry e s
  | .accountSaveTimer e => Sys2Proof.Machine.execAccountSaveTimer e s
  | .managementFrame e dst src payload => Sys2Proof.Machine.execManagementFrame e dst src payload s
  | .unknownRequest e station kind tag fields => Sys2Proof.Machine.execUnknownRequest e station kind tag fields s
  | .loadBegin e station tag fields => Sys2Proof.Machine.execLoadBegin e station tag fields s
  | .loadData e station tag fields => Sys2Proof.Machine.execLoadData e station tag fields s
  | .loadEnd e station tag fields => Sys2Proof.Machine.execLoadEnd e station tag fields s
  | .readTable e station tag fields => Sys2Proof.Machine.execReadTable e station tag fields s
  | .readState e station tag fields => Sys2Proof.Machine.execReadState e station tag fields s
  | .nextAlarm e station tag fields => Sys2Proof.Machine.execNextAlarm e station tag fields s
  | .startTransfer e station tag fields => Sys2Proof.Machine.execStartTransfer e station tag fields s
  | .abortTransfer e station tag fields => Sys2Proof.Machine.execAbortTransfer e station tag fields s
  | .bunkerReceipt e station tag fields => Sys2Proof.Machine.execBunkerReceipt e station tag fields s
  | .setTankBook e station tag fields => Sys2Proof.Machine.execSetTankBook e station tag fields s
  | .zeroConsumer e station tag fields => Sys2Proof.Machine.execZeroConsumer e station tag fields s
  | .towNodeAccess e station tag fields => Sys2Proof.Machine.execTowNodeAccess e station tag fields s
  | .clearCounters e station tag fields => Sys2Proof.Machine.execClearCounters e station tag fields s
  | .restart e station tag fields => Sys2Proof.Machine.execRestart e station tag fields s
  | .loadInactivityTimeout e => Sys2Proof.Machine.execLoadInactivityTimeout e s
  | .scrubCheck e found => Sys2Proof.Machine.execScrubCheck e found s
  | .discardedFrame e line dst src kind => Sys2Proof.Machine.execDiscardedFrame e line dst src kind s

end Sys2Proof.Machine
end

