-- ==== Sys2Proof/Safety.lean ====
section
/-! DEFINITION. What claims about the part are stated in: the invariants the manual states of its blocks, and
what it is for a request to stand at the head of the queue and for it to have been answered. -/

namespace Sys2Proof.Machine

/-! ## The station unit (chapter 1) -/

/-- "At most one authority request is pending, and its requester is never the holder" (section 1.3); the
transfer timer runs exactly while a request is pending, and the orphan timer only while no station holds
command (the table of forms). -/
def StationUnit.authorityFormed (u : StationUnit) : Prop :=
  (∀ n : Fin 4, u.holder = some n → u.requester ≠ some n)
    ∧ (u.transferTimer.isSome = u.requester.isSome)
    ∧ (u.orphanTimer.isSome = true → u.holder = none)

/-- A PRESENT station has been heard twice, its silence timer runs, and it has a frame and a baseline (R2 to
R4). -/
def Station.presenceFormed (x : Station) : Prop :=
  x.presence = .present → x.good = 2 ∧ x.silence.isSome = true ∧ x.frame.isSome = true ∧ x.baseline.isSome = true

/-- STATION n SILENT is active exactly while station n is SILENT (R3), and LEVER FAULT exactly while a channel
is in lever fault (R16). -/
def State.stationConditions (s : State) : Prop :=
  (∀ n : Fin 4, s.cond.source[n.val] = decide ((s.station.stations[n.val]).presence = .silent))
    ∧ s.cond.source[5] = s.station.leverFault.any id

/-! ## The propulsion unit (chapter 2) -/

/-- Trim lies within ±800 and is 0 unless the engine is TRIMMED (R45, R47). -/
def Engine.trimFormed (g : Engine) : Prop := -800 ≤ g.trim ∧ g.trim ≤ 800 ∧ (g.member ≠ .trimmed → g.trim = 0)

/-- A SHIFTING engine has a shift target and an engine in any other gear state has none; a running dwell timer
means DWELL, and a confirm timer runs only while a direction is engaged (R31 to R36). -/
def Engine.gearFormed (g : Engine) : Prop :=
  (g.shiftTarget.isSome = true ↔ g.gear = .shifting)
    ∧ (g.dwell.isSome = true ↔ g.phase = .dwell)
    ∧ (g.confirm.isSome = true → g.gear = .ahead ∨ g.gear = .astern)

/-- Two engine records that differ at most in member status and trim, which a change of lead rewrites
(R46). -/
def Engine.sameButTrim (g h : Engine) : Prop := h = { g with member := h.member, trim := h.trim }

/-- GEAR FAULT n is active exactly while engine n's gear fault is set (R36, R37). -/
def State.gearConditions (s : State) : Prop :=
  ∀ n : Fin 4, s.cond.source[10 + n.val] = (s.prop.engines[n.val]).gearFault

/-! ## Couplings (chapter 6) -/

/-- "A coupling is OPENED only if it is a split coupling and split mode is SPLITTING or SPLIT" (R124). -/
def State.openedFormed (s : State) : Prop :=
  ∀ (i : Nat) (c : Coupling), s.coup.records[i]? = some c → c.state = .opened →
    (s.coup.mode = .splitting ∨ s.coup.mode = .split)
      ∧ ∃ e : CouplingEntry, s.couplingEntries[i]? = some e ∧ e.split = true

/-- A tow limits image whose floor is one R104 admits. -/
def floorFits (b : Bytes) : Prop := (parseTowLimits b).f ≤ 1000

/-- The tow limits image in use and its retained copy passed R104's check of the floor. -/
def State.floorsFit (s : State) : Prop :=
  ((s.slot 7).valid = true → floorFits (s.slot 7).image)
    ∧ ∀ c : RetainedTable, s.store.retained.tables[7] = some c → floorFits c.image

/-- The published ceiling never stands above the capped value (R114, R115). -/
def State.ceilingFormed (s : State) : Prop := s.floorsFit ∧ s.coup.cTow ≤ s.cCap

/-! ## Fuel (chapter 7) -/

/-- "book = opening + receipts + in − out − consumption" (R136). -/
def Book.balanced (b : Book) : Prop := b.book = b.opening + b.receipts + b.moveIn - b.moveOut - b.consumption

/-- Every book, and every book of the last account save, equals its formula (R136, R144). -/
def State.booksBalanced (s : State) : Prop :=
  (∀ i : Fin 12, (s.fuel.tanks[i.val]).book.balanced)
    ∧ ∀ r : FuelRegion, s.store.retained.fuel = some r → ∀ i : Fin 12, (r.books[i.val]).balanced

/-- FEED LOW is active exactly while a present tank that feeds a present engine has a below flag set, and FEED LOW-LOW
while such a tank is in LOWLOW or EMPTY (R141, R142). -/
def State.feedConditions (s : State) : Prop :=
  let feeds (p : Tank → Prop) : Prop :=
    ∃ (n : Fin 4) (e : EngineEntry) (i : Fin 12) (x : TankEntry), s.engine? n = some e
      ∧ s.tankAt? e.feedTank = some (i, x) ∧ p (s.tankRec i)
  (s.sourceOf 38 = true ↔ feeds fun t => t.lowFlag = true ∨ t.lowLowFlag = true ∨ t.emptyFlag = true)
    ∧ (s.sourceOf 39 = true ↔ feeds fun t => t.lowLowFlag = true ∨ t.emptyFlag = true)

/-- FUEL DISCREPANCY is active exactly while a present tank has a discrepancy (R143). -/
def State.discrepancyFollows (s : State) : Prop :=
  s.sourceOf 40 = true ↔ ∃ i : Fin 12, s.tank? i ≠ none ∧ (s.tankRec i).discrepancy = true

/-- METER FAULT is active exactly while a present consumer has its meter fault set (R135). -/
def State.meterFaultFollows (s : State) : Prop :=
  s.sourceOf 41 = true ↔ ∃ i : Fin 6, s.consumer? i ≠ none ∧ (s.consumerAt i).meterFault = true

/-- ACCOUNT INVALID is active exactly while an account or a book is INVALID (R145). -/
def State.accountInvalidFollows (s : State) : Prop :=
  s.sourceOf 43 = true ↔
    (∃ i : Fin 6, (s.consumerAt i).account.valid = false) ∨ ∃ i : Fin 12, (s.tankRec i).book.valid = false

/-- The bow unit that the entry `a` names is usable (R58): its make-up entry carries the bow flag, its node is PRESENT,
and the entry is not cut away while split mode is not NORMAL. -/
def State.bowReady (s : State) (a : SteerEntry) : Prop :=
  ∃ (i : Nat) (m : MakeUpEntry), a.node = i + 1 ∧ s.pollList[i]? = some m ∧ m.bow = true
    ∧ s.towNodeState i = .present ∧ (s.coup.mode = .normal ∨ m.cutB = false)

/-- The gauge standing of a tank after either reset (R147). -/
def State.gaugeAtReset (s : State) (i : Fin 12) : GaugeStanding :=
  match s.tank? i with
  | none => .none
  | some e => if e.gaugeNode = 0 then .none else .noReading

/-! ## Transfer (chapter 8) -/

/-- A run record is held exactly while the run state is not IDLE; the start confirm timer runs exactly in STARTING and
the trailer timer exactly in TRAILER (R149, R152, R155). That the start confirm timer is stopped when a run leaves
STARTING for TRAILER, and either timer at a run end, is the model's choice (notes/assumptions/21.md). -/
def TransferUnit.runFormed (t : TransferUnit) : Prop :=
  (t.run.isSome = true ↔ t.state ≠ .idle)
    ∧ (t.confirmTimer.isSome = true ↔ t.state = .starting)
    ∧ (t.trailerTimer.isSome = true ↔ t.state = .trailer)

/-! ## Conditions (chapter 9) -/

/-- A code is active in its alarm state exactly while its source flag is (R164). -/
def CondUnit.alarmsFollow (c : CondUnit) : Prop :=
  ∀ i : Fin 45, c.source[i.val] = true ↔ (c.alarm[i.val] = .activeUnacked ∨ c.alarm[i.val] = .activeAcked)

/-! ## The table store and the lines (chapters 10 and 11) -/

/-- The conditions of the table store (R145, R176): ACCOUNT INVALID while a mark stands, TABLE FAULT while a
fault flag is set, TABLE MISSING while table 2, 3 or 5 is INVALID. -/
def State.storeConditions (s : State) : Prop :=
  s.cond.source[42] = (s.fuel.consumers.any (fun c => !c.account.valid) || s.fuel.tanks.any (fun t => !t.book.valid))
    ∧ s.cond.source[43] = s.store.slots.any (·.fault)
    ∧ s.cond.source[44] = !((s.slot 1).valid && (s.slot 2).valid && (s.slot 4).valid)

def BasicCounters.bounded (c : BasicCounters) : Prop :=
  c.framing ≤ 65535 ∧ c.length ≤ 65535 ∧ c.crc ≤ 65535 ∧ c.discarded ≤ 65535

/-- Every line counter lies within 0 to 65 535 (R194). -/
def LineCounters.bounded (l : LineCounters) : Prop :=
  l.station.bounded ∧ l.machinery.bounded ∧ l.tow.bounded
    ∧ l.stationGood ≤ 65535 ∧ l.stationTransmit ≤ 65535
    ∧ l.machWrongSource ≤ 65535 ∧ l.machStray ≤ 65535 ∧ l.machLate ≤ 65535 ∧ l.machOverruns ≤ 65535
    ∧ l.towWrongSource ≤ 65535 ∧ l.towMalformed ≤ 65535 ∧ l.towStray ≤ 65535 ∧ l.towLate ≤ 65535

/-- What the part keeps within bounds: the management queue holds at most 4 requests (R178), the run history
and its retained copy at most 8 records (R157), and the line and store counters stay at 65 535 (R186, R187,
R194). -/
def State.storesBounded (s : State) : Prop :=
  s.store.queue.length ≤ 4
    ∧ s.transfer.history.length ≤ 8
    ∧ (∀ h : List Run, s.store.retained.history = some h → h.length ≤ 8)
    ∧ s.store.corrected ≤ 65535 ∧ s.store.writeFailures ≤ 65535
    ∧ s.lines.bounded

/-! ## Requests -/

/-- A request stands at the head of the queue, not yet served, and no restart is due (R178, R185). -/
def State.atHead (s : State) (r : MgmtRequest) : Prop :=
  s.store.restartDue = false ∧ s.store.queue.head? = some r ∧ s.store.head = .waiting

/-- The reply to a request. -/
def MgmtRequest.reply (r : MgmtRequest) (status : Status) (fields : Bytes) (head : Bool) : Reply :=
  { station := r.station, kind := r.kind, tag := r.tag, status := status, fields := fields, head := head }

/-- `t` is `s` with the request at its head answered and nothing else changed: the reply waits for the line,
and the head stays until it has been sent (R178, R193). -/
def State.answered (s t : State) (r : MgmtRequest) (status : Status) (fields : Bytes) (after : AfterReply) :
    Prop :=
  t = { s with
        tx := { s.tx with replies := s.tx.replies ++ [r.reply status fields true] }
        store := { s.store with head := .answered after } }

/-- A served request's step: the request `r` stands at the head, its sender holds the rights of group `g`
where its kind asks for any, and its fields have a length that fits its kind (R177, R178). -/
def State.canServe (s : State) (r : MgmtRequest) (g : Option Rights) : Prop :=
  s.atHead r ∧ fieldsFit r.kind r.fields.length = true ∧ ∀ x : Rights, g = some x → s.holdsRight r.station x = true

/-- The OK reply of `fields` to the request `r` waits for the line in `t`, and nothing else of the sending side
has changed since `s`. -/
def State.repliedOk (s t : State) (r : MgmtRequest) (fields : Bytes) : Prop :=
  t.tx = { s.tx with replies := s.tx.replies ++ [r.reply .ok fields true] }

/-- The corrected-word count after the read-back of a write of region `r` at a step whose read-backs find `rb`
(R186). -/
def TableStore.correctedBy (x : TableStore) (rb : ReadBack) (r : Region) : Nat :=
  min 65535 (x.corrected + rb.corrected.count r)

/-- A table store after a write of item `i`, which puts `f`'s effect into the retained store, at a step whose
read-backs find `rb` (R186, R187): the words corrected count, and a failed write counts, leaves the last whole copy
and is owed. -/
def TableStore.wrote (x : TableStore) (rb : ReadBack) (i : StoreItem) (f : Retained → Retained) : TableStore :=
  if i.region ∈ rb.failed then
    { x with
      corrected := x.correctedBy rb i.region
      writeFailures := min 65535 (x.writeFailures + 1)
      owed := i :: x.owed.filter (· ≠ i) }
  else
    { x with
      corrected := x.correctedBy rb i.region
      retained := f x.retained
      owed := x.owed.filter (· ≠ i) }

/-- A table store after the write of the image `b` to the region of table id id + 1 at a step whose read-backs find
`rb` (R183, R186, R187): the words corrected count, and a failed write counts and leaves a damaged copy. -/
def TableStore.wroteTable (x : TableStore) (rb : ReadBack) (id : Fin 13) (b : Bytes) : TableStore :=
  let failed := decide (Region.table (id.val + 1) ∈ rb.failed)
  { x with
    corrected := x.correctedBy rb (.table (id.val + 1))
    writeFailures := if failed then min 65535 (x.writeFailures + 1) else x.writeFailures
    retained := { x.retained with
      tables := x.retained.tables.set id.val (some { image := b, crc := crc16 b, damaged := failed }) } }

/-- A table store after an account save of `fuel` with the run history, run counter and split mode as they stand
(R144, R187): the fuel region is written, and each other item whose last write failed is written again. -/
def TableStore.saved (x : TableStore) (rb : ReadBack) (fuel : FuelRegion) (history : List Run) (counter : Nat)
    (mode : SplitMode) : TableStore :=
  let again (x : TableStore) (i : StoreItem) (f : Retained → Retained) : TableStore :=
    if i ∈ x.owed then x.wrote rb i f else x
  let x1 := x.wrote rb .fuel fun r => { r with fuel := some fuel }
  let x2 := again x1 .history fun r => { r with history := some history }
  let x3 := again x2 .counter fun r => { r with counter := some counter }
  again x3 .splitMode fun r => { r with splitMode := some mode }

/-- The table store of `s` after an account save of `t`'s accounts and books at the step `e` (R144, R187). -/
def State.savedStore (s t : State) (e : Env) : TableStore :=
  s.store.saved e.readBack
    { accounts := t.fuel.consumers.map (·.account), books := t.fuel.tanks.map (·.book) }
    t.transfer.history t.transfer.counter t.coup.mode

/-- `t`'s table store is `s`'s after an account save at the step `e` (R144, R187) by a request now answered. -/
def State.savedAccounts (s t : State) (e : Env) : Prop :=
  t.store = { s.savedStore t e with head := .answered .nothing }

/-! ## Tables (section 11.6) -/

/-- `lo ≤ n ≤ hi`. -/
def between (lo hi n : Nat) : Prop := lo ≤ n ∧ n ≤ hi

/-- Engine n + 1 of an engine table image is present. -/
def engineIn (b : Bytes) (n : Fin 4) : Prop := bitOf (byteAt b (1 + 15 * n.val)) 0 = true

/-- The fields of an engine table image lie in their ranges, and present engines differ in their nodes (R23). That a
sync gain above 16 refuses a table without a present engine too is the model's choice (notes/assumptions/19.md). -/
def engineTableFits (b : Bytes) : Prop :=
  byteAt b 0 ≤ 16
  ∧ (∀ n : Fin 4, engineIn b n →
      let o := 1 + 15 * n.val
      between 1 4 (byteAt b (o + 1)) ∧ between 300 900 (u16 b (o + 2))
      ∧ between (u16 b (o + 2) + 100) 2400 (u16 b (o + 4)) ∧ between (u16 b (o + 2) + 100) 2400 (u16 b (o + 6))
      ∧ between 1 500 (u16 b (o + 8)) ∧ between 1 500 (u16 b (o + 10))
      ∧ (byteAt b (o + 12) = 0 ∨ between 5 50 (byteAt b (o + 12)))
      ∧ between 1 30 (byteAt b (o + 13)) ∧ between 1 12 (byteAt b (o + 14)))
  ∧ ∀ m n : Fin 4, m ≠ n → engineIn b m → engineIn b n → byteAt b (14 + 15 * m.val) ≠ byteAt b (14 + 15 * n.val)

/-- The dead bands and curves of a lever curve table image (R25). -/
def curveTableFits (b : Bytes) : Prop :=
  ∀ c : Fin 4, byteAt b (67 * c.val) ≤ 100
    ∧ ∀ q : Nat, q = 67 * c.val + 1 ∨ q = 67 * c.val + 34 →
      between 2 8 (byteAt b q)
      ∧ (∀ i : Nat, i < byteAt b q → u16 b (q + 1 + 4 * i) ≤ 1000 ∧ u16 b (q + 3 + 4 * i) ≤ 1000)
      ∧ ∀ i : Nat, i + 1 < byteAt b q →
        u16 b (q + 1 + 4 * i) < u16 b (q + 5 + 4 * i) ∧ u16 b (q + 3 + 4 * i) ≤ u16 b (q + 7 + 4 * i)

/-- The actuator at position i + 1 of a steering table image is present. -/
def actuatorIn (b : Bytes) (i : Fin 7) : Prop := bitOf (byteAt b (12 * i.val)) 0 = true

/-- The fields of a steering table image lie in their ranges, each kind is its position's, and present MAIN and
FLANKING actuators differ in their nodes (R50, R51). -/
def steeringTableFits (b : Bytes) : Prop :=
  (∀ i : Fin 7, actuatorIn b i →
    let o := 12 * i.val
    byteAt b (o + 1) = (if i.val < 2 then 0 else if i.val < 6 then 1 else 2)
    ∧ -1000 ≤ s16 b (o + 2) ∧ s16 b (o + 2) ≤ 1000 ∧ between 50 450 (u16 b (o + 4))
    ∧ between 10 300 (u16 b (o + 6)) ∧ between 10 100 (byteAt b (o + 8)) ∧ between 5 100 (byteAt b (o + 9))
    ∧ between 1 (if i.val = 6 then 48 else 30) (byteAt b (o + 10))
    ∧ (2 ≤ i.val → i.val ≤ 5 → between 1 4 (byteAt b (o + 11))))
  ∧ ∀ i j : Fin 7, i ≠ j → i.val < 6 → j.val < 6 → actuatorIn b i → actuatorIn b j →
    byteAt b (12 * i.val + 10) ≠ byteAt b (12 * j.val + 10)

/-- A steering table image agrees with an engine table image (R51): no rudder has an engine's node, and a FLANKING
one's interlock engine is present and on the rudder's side. -/
def steeringFitsEngines (b engines : Bytes) : Prop :=
  ∀ i : Fin 7, i.val < 6 → actuatorIn b i →
    (∀ n : Fin 4, engineIn engines n → byteAt b (12 * i.val + 10) ≠ byteAt engines (14 + 15 * n.val))
    ∧ (2 ≤ i.val → ∃ n : Fin 4, byteAt b (12 * i.val + 11) = n.val + 1 ∧ engineIn engines n
        ∧ bitOf (byteAt engines (1 + 15 * n.val)) 1 = decide (4 ≤ i.val))

/-- Entry `i` of a slot table image is one of its entries and active. -/
def slotIn (b : Bytes) (i : Nat) : Prop := i < byteAt b 1 ∧ bitOf (byteAt b (2 + 6 * i)) 0 = true

/-- The kind of entry `i` of a slot table image: 0 COMMAND, 1 EXCHANGE, 2 CALL. -/
def slotKindIn (b : Bytes) (i : Nat) : Nat := byteAt b (2 + 6 * i) / 2 % 4

/-- The fields of a slot table image lie in their ranges; kind and content agree, no engine or actuator has two
EXCHANGE slots, a node has one content and the pump one node; and the windows fit in the period (R68, R69, R70). -/
def slotTableFits (b : Bytes) : Prop :=
  between 20 100 (byteAt b 0) ∧ byteAt b 0 % 5 = 0 ∧ byteAt b 1 ≤ 32
  ∧ (∀ i : Nat, i < byteAt b 1 → slotKindIn b i ≤ 2 ∧ byteAt b (4 + 6 * i) ≤ 12)
  ∧ (∀ i : Nat, slotIn b i →
      between 1 30 (byteAt b (3 + 6 * i)) ∧ between 2 50 (byteAt b (5 + 6 * i))
      ∧ byteAt b (6 + 6 * i) ∈ [1, 2, 4, 8, 16, 32] ∧ byteAt b (7 + 6 * i) < byteAt b (6 + 6 * i)
      ∧ (byteAt b (4 + 6 * i) = 10 ∨ byteAt b (4 + 6 * i) = 11 → slotKindIn b i = 2))
  ∧ (∀ i j : Nat, i ≠ j → slotIn b i → slotIn b j →
      (byteAt b (3 + 6 * i) = byteAt b (3 + 6 * j) → byteAt b (4 + 6 * i) = byteAt b (4 + 6 * j))
      ∧ (byteAt b (4 + 6 * i) = 12 → byteAt b (4 + 6 * j) = 12 → byteAt b (3 + 6 * i) = byteAt b (3 + 6 * j))
      ∧ ¬ (byteAt b (4 + 6 * i) ≤ 9 ∧ byteAt b (4 + 6 * i) = byteAt b (4 + 6 * j) ∧ slotKindIn b i = 1
          ∧ slotKindIn b j = 1))
  ∧ ((List.range (byteAt b 1)).map fun i =>
      if bitOf (byteAt b (2 + 6 * i)) 0 then byteAt b (5 + 6 * i) else 0).sum ≤ 10 * byteAt b 0

/-- What the active slots of a slot table image ask of the engine or actuator of content `content` at node `node`
(R70): one of them is its EXCHANGE slot, and all of its slots name that node. -/
def slotsServe (b : Bytes) (content node : Nat) : Prop :=
  (∃ i : Nat, slotIn b i ∧ byteAt b (4 + 6 * i) = content ∧ slotKindIn b i = 1)
  ∧ ∀ i : Nat, slotIn b i → byteAt b (4 + 6 * i) = content → byteAt b (3 + 6 * i) = node

/-- A slot table image agrees with an engine table image (R70). -/
def slotsFitEngines (b engines : Bytes) : Prop :=
  ∀ n : Fin 4, engineIn engines n → slotsServe b n.val (byteAt engines (14 + 15 * n.val))

/-- A slot table image agrees with a steering table image (R70). -/
def slotsFitSteering (b steering : Bytes) : Prop :=
  ∀ i : Fin 7, i.val < 6 → actuatorIn steering i → slotsServe b (4 + i.val) (byteAt steering (12 * i.val + 10))

/-- The fields of a make-up table image lie in their ranges, its addresses and its places in the tow differ, and at
most one entry is the bow unit (R83, R102). -/
def makeUpTableFits (b : Bytes) : Prop :=
  byteAt b 0 ≤ 48
  ∧ (∀ i : Nat, i < byteAt b 0 →
      let o := 1 + 5 * i
      between 1 63 (byteAt b o) ∧ between 1 8 (byteAt b (o + 1)) ∧ between 1 6 (byteAt b (o + 2))
      ∧ byteAt b (o + 3) % 8 ≤ 4 ∧ between 1 8 (byteAt b (o + 4)))
  ∧ ∀ i j : Nat, i < byteAt b 0 → j < byteAt b 0 → i ≠ j →
    byteAt b (1 + 5 * i) ≠ byteAt b (1 + 5 * j)
    ∧ (byteAt b (2 + 5 * i) ≠ byteAt b (2 + 5 * j) ∨ byteAt b (3 + 5 * i) ≠ byteAt b (3 + 5 * j))
    ∧ ¬ (bitOf (byteAt b (4 + 5 * i)) 3 = true ∧ bitOf (byteAt b (4 + 5 * j)) 3 = true)

/-- The fields of a coupling table image lie in their ranges, a FACE entry is no split coupling, and no two entries
name one channel of one node (R101). -/
def couplingTableFits (b : Bytes) : Prop :=
  byteAt b 0 ≤ 96
  ∧ (∀ i : Nat, i < byteAt b 0 →
      let o := 1 + 6 * i
      between 1 48 (byteAt b o) ∧ byteAt b (o + 1) / 4 % 4 ≤ 2 ∧ between 100 8000 (u16 b (o + 2))
      ∧ 1 ≤ u16 b (o + 4) ∧ u16 b (o + 4) < u16 b (o + 2)
      ∧ ¬ (byteAt b (o + 1) / 4 % 4 = 2 ∧ bitOf (byteAt b (o + 1)) 4 = true))
  ∧ ∀ i j : Nat, i < byteAt b 0 → j < byteAt b 0 → i ≠ j →
    byteAt b (1 + 6 * i) ≠ byteAt b (1 + 6 * j) ∨ byteAt b (2 + 6 * i) % 4 ≠ byteAt b (2 + 6 * j) % 4

/-- A make-up table image agrees with a coupling table image (R102): every coupling names an entry and a channel of
it, a FACE coupling one of cut A, and split couplings ask for a cut B. Node indexes count from 1. -/
def towTablesAgree (b couplings : Bytes) : Prop :=
  (∀ i : Nat, i < byteAt couplings 0 →
    let node := byteAt couplings (1 + 6 * i) - 1
    let flags := byteAt couplings (2 + 6 * i)
    node < byteAt b 0 ∧ flags % 4 < byteAt b (4 + 5 * node) % 8
    ∧ (flags / 4 % 4 = 2 → bitOf (byteAt b (4 + 5 * node)) 4 = false))
  ∧ ((∃ i : Nat, i < byteAt couplings 0 ∧ bitOf (byteAt couplings (2 + 6 * i)) 4 = true) →
      ∃ j : Nat, j < byteAt b 0 ∧ bitOf (byteAt b (4 + 5 * j)) 4 = true)

/-- The consumer part of a tank and consumer table image (R127). That a present byte above 1 refuses it is the
model's choice (notes/assumptions/19.md). -/
def consumerTableFits (b : Bytes) : Prop :=
  (∀ i : Fin 6,
    let o := 9 * i.val
    byteAt b o ≤ 1
    ∧ (byteAt b o = 1 →
        between 1 30 (byteAt b (o + 1)) ∧ between 1 4 (byteAt b (o + 2)) ∧ between 100 10000 (u16 b (o + 3))
        ∧ byteAt b (o + 5) ≤ 200 ∧ between 100 8000 (u16 b (o + 6))
        ∧ (4 ≤ i.val → ∃ t : Fin 12, byteAt b (o + 8) = t.val + 1 ∧ bitOf (byteAt b (54 + 18 * t.val)) 0 = true
            ∧ byteAt b (54 + 18 * t.val) / 2 % 4 = 1)))
  ∧ ∀ i j : Fin 6, i ≠ j → byteAt b (9 * i.val) = 1 → byteAt b (9 * j.val) = 1 →
    byteAt b (9 * i.val + 1) ≠ byteAt b (9 * j.val + 1) ∨ byteAt b (9 * i.val + 2) ≠ byteAt b (9 * j.val + 2)

/-- The tank part of a tank and consumer table image (R128). -/
def tankTableFits (b : Bytes) : Prop :=
  let tankIn (t : Fin 12) : Prop := bitOf (byteAt b (54 + 18 * t.val)) 0 = true
  (∀ t : Fin 12, tankIn t →
    let o := 54 + 18 * t.val
    let capacity := u24 b (o + 1)
    byteAt b o / 2 % 4 ≤ 2 ∧ between 1 1000000 capacity ∧ byteAt b (o + 4) ≤ 30
    ∧ (byteAt b (o + 4) ≠ 0 → between 1 8 (byteAt b (o + 5)))
    ∧ capacity * 5 / 1000 < u24 b (o + 12) ∧ u24 b (o + 12) < u24 b (o + 9) ∧ u24 b (o + 9) < u24 b (o + 6)
    ∧ u24 b (o + 6) ≤ capacity ∧ between 1 100000 (u24 b (o + 15)))
  ∧ ∀ t v : Fin 12, t ≠ v → tankIn t → tankIn v → byteAt b (58 + 18 * t.val) ≠ 0 →
    byteAt b (58 + 18 * t.val) ≠ byteAt b (58 + 18 * v.val) ∨ byteAt b (59 + 18 * t.val) ≠ byteAt b (59 + 18 * v.val)

/-- A transfer table image (R148): distinct pairs of two tanks, enabled rules whose source and day tank are one of
them, and the pump's constants. That an enabled byte above 1 refuses it is the model's choice
(notes/assumptions/19.md). -/
def transferTableFits (b : Bytes) : Prop :=
  let n := byteAt b 0
  n ≤ 16
  ∧ (∀ i : Nat, i < n → between 1 12 (byteAt b (1 + 2 * i)) ∧ between 1 12 (byteAt b (2 + 2 * i))
      ∧ byteAt b (1 + 2 * i) ≠ byteAt b (2 + 2 * i))
  ∧ (∀ i j : Nat, i < n → j < n → i ≠ j →
      byteAt b (1 + 2 * i) ≠ byteAt b (1 + 2 * j) ∨ byteAt b (2 + 2 * i) ≠ byteAt b (2 + 2 * j))
  ∧ (∀ r : Fin 4,
      let o := 1 + 2 * n + 3 * r.val
      byteAt b o ≤ 1
      ∧ (byteAt b o = 1 → between 1 12 (byteAt b (o + 1)) ∧ between 1 12 (byteAt b (o + 2))
          ∧ byteAt b (o + 1) ≠ byteAt b (o + 2)
          ∧ ∃ i : Nat, i < n ∧ byteAt b (1 + 2 * i) = byteAt b (o + 2) ∧ byteAt b (2 + 2 * i) = byteAt b (o + 1)))
  ∧ between 100 10000 (u16 b (13 + 2 * n)) ∧ byteAt b (15 + 2 * n) ≤ 200 ∧ between 100 8000 (u16 b (16 + 2 * n))

/-- A reaction table image (R166, section 11.6). That an engine mask above 15 refuses it is the model's choice
(notes/assumptions/19.md). -/
def reactionTableFits (b : Bytes) : Prop :=
  ∀ i : Fin 45, byteAt b (6 * i.val) = i.val + 1 ∧ byteAt b (6 * i.val + 1) ≤ 3 ∧ u16 b (6 * i.val + 3) ≤ 1000
    ∧ byteAt b (6 * i.val + 5) ≤ 15

/-- A condition mask and profile table image (R93): code 0 is not masked, and every in-bit binding is IGNORE, TOW
INPUT A or TOW INPUT B. -/
def profileTableFits (b : Bytes) : Prop :=
  bitOf (byteAt b 0) 0 = false ∧ ∀ p k : Fin 8, byteAt b (40 + 16 * p.val + k.val) % 4 ≠ 3

/-- The slot table that engine and steering table loads are compared with: the pending one, or else the one in use
while VALID (R70). -/
def State.slotsToCompare (s : State) (x : Bytes) : Prop :=
  s.mach.pendingTable = some x ∨ (s.mach.pendingTable = none ∧ s.tableImage 4 = some x)

/-! ## Loads that begin -/

/-- LOAD BEGIN for a table and a length is refused with a status by the first of its checks that fails (R180). -/
def State.beginRefused (s : State) (station table length : Nat) (status : Status) : Prop :=
  (status = .range ∧ (table = 0 ∨ 13 < table))
    ∨ (status = .rights ∧ 1 ≤ table ∧ table ≤ 13 ∧ s.holdsRight station (tableGroup table) = false)
    ∨ (status = .range ∧ 1 ≤ table ∧ table ≤ 13 ∧ s.holdsRight station (tableGroup table) = true
        ∧ (length = 0 ∨ largestImage table < length))

/-- LOAD BEGIN for a table and a length passes its checks (R180). -/
def State.beginPasses (s : State) (station table length : Nat) : Prop :=
  1 ≤ table ∧ table ≤ 13 ∧ s.holdsRight station (tableGroup table) = true ∧ 1 ≤ length
    ∧ length ≤ largestImage table

/-- The load buffer as a BEGIN opens it (R180, R182): all bytes 0 and the inactivity timer at 5 s. -/
def openedBuffer (now : Moment) (station table length : Nat) : LoadBuffer :=
  { owner := station, table := table, bytes := List.replicate length 0, deadline := now + sec 5 }

/-- `t` is `x` once the BEGIN `w` in its waiting-load slot has been taken out and handled as one against a free buffer
(R180, R182): refused, or the buffer opens for its sender; its reply waits behind the others either way. -/
def State.tookWaiting (x t : State) (w : WaitingLoad) : Prop :=
  let reply (status : Status) : StationTx :=
    { x.tx with replies := x.tx.replies ++
      [{ station := w.station, kind := 0x01, tag := w.tag, status := status, fields := [], head := false }] }
  (∀ status : Status, x.beginRefused w.station w.table w.length status →
    t = { x with store := { x.store with waitingLoad := none }, tx := reply status })
  ∧ (x.beginPasses w.station w.table w.length →
    t = { x with
          store := { x.store with
            waitingLoad := none, buffer := some (openedBuffer x.now w.station w.table w.length) }
          tx := reply .ok })

/-! ## Runs of bytes -/

/-- The number that a field's bytes carry, most significant byte first (section 11.2). -/
def bigEndian (b : Bytes) : Nat := b.foldl (fun n x => 256 * n + x.toNat) 0

/-- A run of bytes is the fields listed, one after the other and nothing else: each is given by its width in bytes
and its value, negative values in two's complement (section 11.2), so that −1 is all ones, an absent field (section
11.3). -/
def carries : Bytes → List (Nat × Int) → Prop
  | b, [] => b = []
  | b, (width, value) :: rest =>
    width ≤ b.length ∧ (bigEndian (b.take width) : Int) = value % (256 ^ width : Nat) ∧ carries (b.drop width) rest

/-- The value of a field that may be absent (section 11.3). -/
def fieldOf {α : Type} (x : Option α) (f : α → Int) : Int :=
  match x with
  | none => -1
  | some a => f a

/-- The value of a yes or no (section 11.3). -/
def yesNo (b : Bool) : Int := if b then 1 else 0

/-- The value of a timer: the milliseconds left to its expiry, staying at 65 535, and absent while it is stopped
(section 11.3). -/
def State.timerField (s : State) (t : Option Moment) : Int := fieldOf t fun d => min 65535 ((d - s.now) / 100 : Nat)

/-- The value of an age: the milliseconds since a moment, staying at 65 535, and absent without one (section 11.3). -/
def State.ageField (s : State) (t : Option Moment) : Int := fieldOf t fun d => min 65535 ((s.now - d) / 100 : Nat)

/-! ## Frames -/

/-- The parts of a State, by name. -/
inductive Part where
  | now
  | epoch
  | straps
  | station
  | prop
  | steer
  | mach
  | towLine
  | coup
  | fuel
  | transfer
  | cond
  | store
  | lines
  | tx
  | sent
  | readBack
  | draws
  | pending
  deriving DecidableEq, Repr

/-- Two states agree in one part. -/
def State.agree (s t : State) : Part → Prop
  | .now => t.now = s.now
  | .epoch => t.epoch = s.epoch
  | .straps => t.straps = s.straps
  | .station => t.station = s.station
  | .prop => t.prop = s.prop
  | .steer => t.steer = s.steer
  | .mach => t.mach = s.mach
  | .towLine => t.towLine = s.towLine
  | .coup => t.coup = s.coup
  | .fuel => t.fuel = s.fuel
  | .transfer => t.transfer = s.transfer
  | .cond => t.cond = s.cond
  | .store => t.store = s.store
  | .lines => t.lines = s.lines
  | .tx => t.tx = s.tx
  | .sent => t.sent = s.sent
  | .readBack => t.readBack = s.readBack
  | .draws => t.draws = s.draws
  | .pending => t.pending = s.pending

/-- `t` is `s` in every part but those listed. -/
def State.sameBut (s t : State) (ps : List Part) : Prop := ∀ p : Part, p ∉ ps → s.agree t p

/-- `t` shows what `s` shows of every condition code but those listed. -/
def State.condsBut (s t : State) (codes : List Nat) : Prop :=
  ∀ i : Fin 45, i.val + 1 ∉ codes →
    t.cond.source[i.val] = s.cond.source[i.val] ∧ t.cond.alarm[i.val] = s.cond.alarm[i.val]

/-- Every record of a bank but those listed is as it was. -/
def Bank.sameBut {α : Type} {n : Nat} (v w : Vector α n) (is : List (Fin n)) : Prop :=
  ∀ i : Fin n, i ∉ is → w[i.val] = v[i.val]

/-! ## The machinery line (chapter 4) -/

/-- The computation that a slot of `interval` ms makes as it fires (R38, R54, R73): that of its engine, under the least
of the three ceilings, or of its actuator for an EXCHANGE slot, and none for another. -/
def State.slotComputed (s : State) (e : SlotEntry) (interval : Nat) : State :=
  let n := Fin.ofNat 4 e.content
  let i := Fin.ofNat 7 (e.content - 4)
  if slotKindOf e.kind ≠ .exchange then s
  else if e.content ≤ 3 then
    match s.engine? n with
    | none => s
    | some x => (s.demand n x interval (min s.coup.cTow (min (s.cFeed n) (s.cReact n)))).2
  else if e.content ≤ 9 then
    match s.actuator? i with
    | none => s
    | some a => s.rudderCompute i a interval
  else s

/-- The frame that a slot sends, as its owner stands with the slot's computation made (R73, R150, section 11.4): a
report call without content; an engine's most recent command, idle and NEUTRAL before the first; an actuator's
commanded angle; or the pump order, run in STARTING and RUNNING, with the valves of the run open until it ends. -/
def State.slotFrame (s : State) (e : SlotEntry) : Frame :=
  let n := Fin.ofNat 4 e.content
  let idle := match s.engine? n with
    | none => 0
    | some x => x.idle
  let command := ((s.engineAt n).lastCommand).getD { rpm := idle, gear := 0 }
  let runs := s.transfer.state = .starting ∨ s.transfer.state = .running
  let order : Bytes := match s.transfer.run with
    | none => [0, 0, 0]
    | some r => if s.transfer.state = .idle then [0, 0, 0] else [if runs then 1 else 0, byte r.source, byte r.dest]
  let call := slotKindOf e.kind = .call
  { dst := e.node, src := 0xFE
    kind := if call then 0x14 else if e.content ≤ 3 then 0x11 else if e.content ≤ 9 then 0x12 else 0x13
    payload := if call then [] else if e.content ≤ 3 then beBytes 2 command.rpm ++ [byte command.gear]
      else if e.content ≤ 9 then beInt 2 (s.actuatorAt (Fin.ofNat 7 (e.content - 4))).commanded
      else order }

/-- The slots at positions `slots` of the table image `b` served at this moment (R66, R72, R73, R74): the first that
fires opens its window, makes its computation and sends its frame, and those after it are still to come; or none fires,
and the line is quiet. -/
def State.servesNext (s t : State) (b : Bytes) (slots : List Nat) : Prop :=
  (∃ (skipped : List Nat) (i : Nat) (rest : List Nat), slots = skipped ++ i :: rest
      ∧ (∀ j ∈ skipped, s.slotFires (slotEntryOf b j) = false) ∧ s.slotFires (slotEntryOf b i) = true
      ∧ (let e := slotEntryOf b i
         let opened : State :=
           { s with mach := { s.mach with
               slotsLeft := rest
               window := some
                 { node := e.node, content := e.content, kind := slotKindOf e.kind, openAt := s.now
                   closeAt := s.now + tenthMs e.window } } }
         let x := opened.slotComputed e (e.divider * slotPeriodOf b)
         t = { x with sent := { x.sent with machinery := x.slotFrame e :: x.sent.machinery } }))
    ∨ ((∀ j ∈ slots, s.slotFires (slotEntryOf b j) = false)
        ∧ t = { s with mach := { s.mach with slotsLeft := [], window := none } })

/-- What a cycle that begins in `u` with count `count` under the slot table image `b` leaves in `t` (R66, R67, R72):
the count, the next boundary P later, the cycle's mark on the line, and the first slot that fires served behind it,
90 µs after the boundary, at which the clock stays (notes/assumptions/11.md). -/
def State.cycleBegins (u t : State) (b : Bytes) (count : Nat) : Prop :=
  let mark : Frame :=
    { dst := 0xFF, src := 0xFE, kind := 0x10
      payload := beBytes 2 count
        ++ [if (u.slot 1).valid && (u.slot 2).valid && (u.slot 4).valid then 1 else 0] }
  let marked : State :=
    { u with
      now := u.now + 9
      mach := { u.mach with
        running := true, cycleCount := count, nextBoundary := u.now + ms (slotPeriodOf b), window := none }
      sent := { u.sent with machinery := mark :: u.sent.machinery } }
  ∃ x : State, marked.servesNext x b ((List.range (slotCountOf b)).filter fun i => (slotEntryOf b i).due count)
    ∧ t = { x with now := u.now }

/-- A miss of the node at `address` handed to the owner of its content (R27, R78, R130, R151): the present engine at the
address is no longer fresh, a meter node's consumers grow their gaps, and what the pump's miss does is in the statement
on run timers. -/
def State.missHanded (v : State) (address content : Nat) : State :=
  if content ≤ 3 then
    (List.finRange 4).foldl (fun v n =>
      if (v.engine? n).any (·.node = address) then v.modEngine n fun g => { g with fresh := false } else v) v
  else if content = 10 then
    (List.finRange 6).foldl (fun v i =>
      if (v.consumer? i).any (·.node = address) then v.modConsumer i fun c => { c with gap := min 255 (c.gap + 1) }
      else v) v
  else if content = 12 then v.pumpMiss
  else v

/-- A rudder at `address` whose node the scheduler comes to hold LOST is SUSPENDED, with both runs ended (R63). -/
def State.rudderHeld (v : State) (address : Nat) : State :=
  (List.finRange 7).foldl (fun v i =>
    if i ≠ bowIx ∧ (v.actuator? i).any (·.node = address) then
      v.modActuator i fun a => { a with nodeLost := true, standing := .suspended, outStart := none, inStart := none }
    else v) v

/-- The loss of the node at `address` handed to the owner of its content (R28, R63, R78, R130, R140, R151): the
present engine at the address is LOST with REPORT LOST active and the lead of its channel re-evaluated; a rudder there
is SUSPENDED; a meter node's consumers have no valid baseline; a gauge node's tanks are LOST with their levels held;
and what the pump's loss does is in the statement on run timers. -/
def State.lossHanded (v : State) (address content : Nat) : State :=
  if content ≤ 3 then
    (List.finRange 4).foldl (fun v n =>
      if (v.engine? n).any (·.node = address) then
        ((v.modEngine n fun g => { g with standing := .lost }).setSource (7 + n.val) true).reLeadOf n
      else v) v
  else if content ≤ 9 then v.rudderHeld address
  else if content = 10 then
    (List.finRange 6).foldl (fun v i =>
      if (v.consumer? i).any (·.node = address) then v.modConsumer i fun c => { c with baseValid := false } else v) v
  else if content = 11 then
    (List.finRange 12).foldl (fun v i =>
      if (v.tank? i).any (fun e => e.gaugeNode = address ∧ e.gaugeNode ≠ 0) then
        v.modTank i fun x => { x with standing := .lost, runStart := none }
      else v) v
  else if content = 12 then v.pumpLost
  else v

/-- A rudder at `address` that the scheduler no longer holds LOST: ACTIVE where an angle is held, else SUSPENDED
(R63). -/
def State.rudderFreed (v : State) (address : Nat) : State :=
  (List.finRange 7).foldl (fun v i =>
    if i ≠ bowIx ∧ (v.actuator? i).any (·.node = address) then
      v.modActuator i fun a =>
        if a.reported = none then
          { a with nodeLost := false, standing := .suspended, outStart := none, inStart := none }
        else { a with nodeLost := false, standing := .active }
    else v) v

/-- `s` once the slot table image `b` has been put in use (R71, R77): no table is pending; a node that an active slot
of it names with the content it had keeps its record; every other node's record is UNKNOWN with its counts 0, and its
report age goes on; a PRESENT one among these is handed to the owner of its old content as a loss, and a LOST one no
longer holds its rudder SUSPENDED; then MACHINERY NODE LOST stands exactly while an active slot names a LOST node. The
nodes are taken in address order (notes/assumptions/22.md). -/
def State.slotTableTaken (s : State) (b : Bytes) : State :=
  let slots := s.store.slots.set 4 { s.slot 4 with image := b, crc := crc16 b, valid := true }
  let u : State :=
    { s with store := { s.store with slots := slots }, mach := { s.mach with pendingTable := none } }
  let one (v : State) (i : Fin 30) : State :=
    let old := s.contentKind (i.val + 1)
    let new := contentOf b (i.val + 1)
    if new ≠ none ∧ new = old then v
    else
      let w := v.modMachNode i fun n => { lastGood := n.lastGood }
      match (s.machNodeAt i).state, old with
      | .present, some c => w.lossHanded (i.val + 1) c
      | .lost, _ => w.rudderFreed (i.val + 1)
      | _, _ => w
  let v := (List.finRange 30).foldl one (u.setSource 45 (!((u.slot 1).valid && (u.slot 2).valid)))
  v.setSource 28 ((List.finRange 30).any fun i =>
    (contentOf b (i.val + 1)).isSome && decide ((v.machNodeAt i).state = .lost))

/-! ## The tow line (chapter 5) -/

/-- The frame of a poll to entry `i`, `m` of the make-up table, that leaves as `t` finds the part (R86): the
node's out-bits, and for a bow-flagged entry the bow demand, 0 unless it is the bow node. -/
def State.pollFrame (t : State) (i : Nat) (m : MakeUpEntry) : Frame :=
  { dst := m.address, src := 0xFE, kind := 0x20
    payload := [t.outBits i m]
      ++ (if m.bow then beInt 2 (if t.isBowNode i then (t.actuatorAt bowIx).commanded else 0) else []) }

/-- A poll to entry `i`, `m` of the make-up table, leaves at this moment (R59, R86): for the bow node the BOW
computation is made, the frame goes out, and the reply window opens for 4 ms. -/
def State.pollLeaves (v t : State) (i : Nat) (m : MakeUpEntry) : Prop :=
  let x := if v.isBowNode i then v.bowCompute else v
  t = { x with
    towLine := { x.towLine with pos := i + 1, spent := none, window := some { entry := i, closeAt := x.now + ms 4 } }
    sent := { x.sent with tow := x.pollFrame i m :: x.sent.tow } }

/-- A poll cycle starts at this moment (R85, R98, R116): the poll to its first entry leaves; with an empty poll list it
is complete at once, with its cycle end handed over and the next start a poll interval later. -/
def State.cycleStarts (v t : State) : Prop :=
  let x : State :=
    { v with towLine := { v.towLine with
        running := true, cycleStart := v.now, complete := false, pos := 0, restartPending := false, window := none
        spent := none } }
  (∀ (first : MakeUpEntry) (rest : List MakeUpEntry), v.pollList = first :: rest → x.pollLeaves t 0 first)
    ∧ (v.pollList = [] → t =
        { x with
          towLine := { x.towLine with complete := true, nextDue := v.now + ms v.pollInterval }
          coup := x.cycleEnd.coup })

/-- How the line goes on once no poll and no node transaction is in progress (R85, R97, R98): a transaction that waits
begins, its frame leaving and its 200 ms running; a restart, or a cycle that is complete with the next one due, starts a
cycle at the first entry; a complete cycle otherwise waits; and a cycle not complete polls its next entry at once. -/
def State.pollingGoesOn (v t : State) : Prop :=
  match v.towLine.access with
  | some a => t =
      { v with
        towLine := { v.towLine with spent := none, access := some { a with deadline := some (v.now + ms 200) } }
        sent := { v.sent with tow :=
          { dst := a.address, src := 0xFE, kind := 0x22
            payload := [byte (if a.write then 1 else 0), byte a.offset, byte a.length]
              ++ (if a.write then a.data else []) } :: v.sent.tow } }
  | none =>
    if v.towLine.restartPending = true ∨ (v.towLine.complete = true ∧ v.towLine.nextDue ≤ v.now) then v.cycleStarts t
    else if v.towLine.complete = true then t = v
    else ∃ m : MakeUpEntry, v.pollList[v.towLine.pos]? = some m ∧ v.pollLeaves t v.towLine.pos m

/-- How the line goes on when a poll has ended (R85, R87, R97, R116): after the last entry's poll the cycle is complete,
its cycle end is handed over, and the next one is due a poll interval after its start. `spent` is the window that stays
open for stray replies until the part's next frame. -/
def State.afterPoll (v t : State) (spent : Option PollWindow) : Prop :=
  let ended : State := { v with towLine := { v.towLine with window := none, spent := spent } }
  if v.pollList.length ≤ v.towLine.pos then
    State.pollingGoesOn
      { ended with
        towLine := { ended.towLine with
          complete := true, nextDue := v.towLine.cycleStart + ms v.pollInterval }
        coup := ended.cycleEnd.coup } t
  else ended.pollingGoesOn t

/-- A node's frame answers the newest frame of the part on its line, or none of its frames: its exchange has not
ended (R75, R87, R97). `sent` holds the part's frames on the line. -/
def answersNewest (sent : List Frame) (answers : Option Nat) : Prop := ∀ k : Nat, answers = some k → sent.length ≤ k

/-- Tow input `input` (1 for A, 2 for B) is active (R93, R95): the last reply of a node in PRESENT or FAULT has an
in-bit that its profile binds to the input, and the bit shows the bound sense, LOW where bit 7 of the binding says
so. -/
def State.towInputActive (s : State) (input : Nat) : Prop :=
  ∃ (b : Bytes) (i k : Nat) (n : TowNode) (m : MakeUpEntry) (r : TowReply), s.tableImage 11 = some b
    ∧ s.towLine.nodes[i]? = some n ∧ s.pollList[i]? = some m ∧ (n.state = .present ∨ n.state = .fault)
    ∧ n.reply = some r ∧ k < 8 ∧ inBinding b m.profile k % 4 = input
    ∧ bitOf r.inBits.toNat k = !bitOf (inBinding b m.profile k) 7

/-- TOW NODE SILENT is active exactly while a SILENT node is not excused: a cut B node is, in SPLITTING and SPLIT
(R91). -/
def State.towSilentFollows (s : State) : Prop :=
  s.sourceOf 29 = true ↔ ∃ (i : Nat) (n : TowNode) (m : MakeUpEntry), s.towLine.nodes[i]? = some n
      ∧ s.pollList[i]? = some m ∧ n.state = .silent
      ∧ ¬ ((s.coup.mode = .splitting ∨ s.coup.mode = .split) ∧ m.cutB = true)

/-- TOW NODE SILENT, TOW NODE FAULT and TOW INPUT A and B are active exactly while their causes stand (R91, R95): a
SILENT node that is not excused, a node in FAULT, and the tow inputs. -/
def State.towConditions (s : State) : Prop :=
  s.towSilentFollows
    ∧ (s.sourceOf 30 = true ↔ ∃ n ∈ s.towLine.nodes, n.state = .fault)
    ∧ (s.sourceOf 36 = true ↔ s.towInputActive 1) ∧ (s.sourceOf 37 = true ↔ s.towInputActive 2)

/-- What an evaluation of bow usability leaves of the BOW record and of BOW UNAVAILABLE (R58, R59, R63): a unit found
usable again starts from its reported angle, with no computation behind it; the check stands ACTIVE where the unit is
usable and an angle is held, and a SUSPENDED one has no run. -/
def State.bowEvaluated (s t : State) : Prop :=
  let a := s.actuatorAt bowIx
  let found (limit : Int) (usable : Bool) : Actuator :=
    let x := if usable = true ∧ a.usable = false then
        { a with
          lastComputation := none
          commanded := match a.reported with
            | none => 0
            | some angle => max (-limit) (min limit angle) }
      else a
    if usable = true ∧ a.reported ≠ none then { x with usable := true, standing := .active }
    else { x with usable := usable, standing := .suspended, outStart := none, inStart := none }
  (s.actuator? bowIx = none → t.actuatorAt bowIx = found 0 false ∧ t.sourceOf 27 = false)
    ∧ (∀ (e : SteerEntry) (usable : Bool), s.actuator? bowIx = some e → (usable = true ↔ t.bowReady e) →
        t.actuatorAt bowIx = found e.limit usable ∧ t.sourceOf 27 = !usable)
    ∧ ∀ i : Fin 7, i ≠ bowIx → t.actuatorAt i = s.actuatorAt i

/-- What follows in `t` once coupling records of `s` have changed (R111, R112, R115, R120, R122): conditions 31 to 34
stand with their causes, the ceiling falls to the capped value of the mode before, and split mode goes on to `mode`;
a change of it stops the rejoin timer, clears REJOIN OVERDUE, has TOW NODE SILENT and bow usability evaluated, and is
written to the retained store (R124). -/
def State.couplingsFollowed (s t : State) (mode : SplitMode) : Prop :=
  t.coup.mode = mode ∧ t.coup.startLimit = s.coup.startLimit
  ∧ t.coup.cTow = min s.coup.cTow ({ t with coup := { t.coup with mode := s.coup.mode } }).cCap
  ∧ t.sourceOf 31 = t.coup.records.any (fun r => r.state = .slack)
  ∧ t.sourceOf 32 = t.coup.records.any (fun r => r.state = .overload)
  ∧ t.sourceOf 33 = t.coup.records.any (fun r => r.state = .parted)
  ∧ t.sourceOf 34 = decide (t.towLimits.blind ≤ t.blindCount)
  ∧ (mode = s.coup.mode → t.coup.rejoinStart = s.coup.rejoinStart ∧ t.store = s.store
      ∧ s.condsBut t [31, 32, 33, 34] ∧ s.sameBut t [.coup, .cond])
  ∧ (mode ≠ s.coup.mode → t.coup.rejoinStart = none ∧ t.sourceOf 35 = false ∧ t.towSilentFollows ∧ s.bowEvaluated t
      ∧ t.store = s.store.wrote s.readBack .splitMode (fun x => { x with splitMode := some mode })
      ∧ s.condsBut t [27, 29, 31, 32, 33, 34, 35] ∧ s.sameBut t [.steer, .coup, .cond, .store])

/-! ## Resets -/

/-- The station unit after either reset (R22). A station that the table in use leaves not fitted is not said to have a
class. -/
def State.stationsAtReset (t : State) : Prop :=
  (∀ n : Fin 4,
    let x := t.stationAt n
    x.presence = .absent ∧ x.good = 0 ∧ x.silence = none ∧ x.frame = none ∧ x.baseline = none ∧ x.result = .none
    ∧ (t.tableImage 0 = none → x.fitted = true ∧ x.cls = .engineRoom)
    ∧ ∀ b : Bytes, t.tableImage 0 = some b →
      (∀ e : StationEntry, (parseStations b).find? (fun e => e.address = n.val + 1) = some e →
        x.fitted = true ∧ x.cls = if e.cls = 0 then .wheelhouse else .engineRoom)
      ∧ ((∀ e ∈ parseStations b, e.address ≠ n.val + 1) → x.fitted = false))
  ∧ t.station.holder = none ∧ t.station.requester = none ∧ t.station.transferTimer = none
  ∧ t.station.orphanTimer = none ∧ t.station.inUse = {}
  ∧ (∀ c : Fin 4, t.station.invalidTimer[c.val] = none ∧ t.station.leverFault[c.val] = false)
  ∧ t.station.followUpNext = t.now

/-- The propulsion unit after either reset (R49): every engine in NEUTRAL at 16 times its idle with no report and no
trim, and no channel armed. That the setpoint of an engine that is not present is 0 is the model's choice
(notes/assumptions/21.md). Only the engine of an EXCHANGE slot that the first machinery cycle has opened has had a
demand computation, which commands it idle and NEUTRAL. -/
def State.enginesAtReset (t : State) : Prop :=
  (∀ n : Fin 4,
    let idle := match t.engine? n with
      | none => 0
      | some e => e.idle
    let computed := ∃ w : MachWindow, t.mach.window = some w ∧ w.kind = .exchange ∧ w.content = n.val
    t.engineAt n = { setpoint := 16 * idle, ageFrom := t.now, lastCommand := (t.engineAt n).lastCommand }
    ∧ (¬ computed → (t.engineAt n).lastCommand = none)
    ∧ (computed → (t.engineAt n).lastCommand = some { rpm := idle, gear := 0 }))
  ∧ ∀ c : Fin 4, t.prop.sync[c.val] = false

/-- The steering unit after either reset, with the reported angle that `kept` gives each actuator (R65). Only the
actuator of an EXCHANGE slot that the first machinery cycle has opened has had a computation, which moves its
commanded angle one step toward 0 (R55 to R57), and the BOW record only where the first poll is the bow node's, which
centres it (R59). -/
def State.actuatorsAtReset (t : State) (kept : Fin 7 → Option Int) : Prop :=
  ∀ i : Fin 7,
    let a := t.actuatorAt i
    let limit : Int := match t.actuator? i with
      | none => 0
      | some e => e.limit
    let start : Int := match kept i with
      | none => 0
      | some r => max (-limit) (min limit r)
    let computed := ∃ w : MachWindow, t.mach.window = some w ∧ w.kind = .exchange ∧ w.content = 4 + i.val
    a.reported = kept i ∧ a.target = 0 ∧ a.fault = false ∧ a.frozen = none ∧ a.outStart = none ∧ a.inStart = none
    ∧ a.usable = false ∧ a.nodeLost = false
    ∧ a.standing = (if i ≠ bowIx ∧ kept i ≠ none then .active else .suspended)
    ∧ (i ≠ bowIx → ¬ computed → a.commanded = start ∧ a.lastComputation = none)
    ∧ (∀ (e : SteerEntry) (b : Bytes), i ≠ bowIx → computed → t.actuator? i = some e → t.tableImage 4 = some b →
        a.lastComputation = some (t.now + 9)
        ∧ ∃ j : Nat, j < slotCountOf b ∧ (slotEntryOf b j).content = 4 + i.val
          ∧ (let step : Int := max 1 (e.rate * ((slotEntryOf b j).divider * slotPeriodOf b) / 1000 : Nat)
             a.commanded = if start < 0 then min (start + step) 0
              else if 0 < start then max (start - step) 0 else 0))
    ∧ (i = bowIx →
        ((∃ w : PollWindow, t.towLine.window = some w ∧ t.isBowNode w.entry = true) →
          a.commanded = 0 ∧ a.lastComputation = some t.now)
        ∧ ((∀ w : PollWindow, t.towLine.window = some w → t.isBowNode w.entry = false) →
          a.commanded = start ∧ a.lastComputation = none))

/-- The machinery line after either reset, with its first cycle begun where the slot table is VALID (R81, R82): every
node UNKNOWN with its counts 0, no table pending, the cycle's mark with count 0 behind what the line carried `before`,
and then the frame and the window of the first due slot that fires (R66, R72, R73). -/
def State.machineryAtReset (t : State) (before : List Frame) : Prop :=
  (∀ i : Fin 30, t.machNodeAt i = {}) ∧ t.mach.cycleCount = 0 ∧ t.mach.pendingTable = none
  ∧ (t.tableImage 4 = none → t.mach.running = false ∧ t.mach.window = none ∧ t.sent.machinery = before)
  ∧ ∀ b : Bytes, t.tableImage 4 = some b →
    t.mach.running = true ∧ t.mach.nextBoundary = t.now + ms (slotPeriodOf b)
    ∧ (let mark : Frame :=
         { dst := 0xFF, src := 0xFE, kind := 0x10
           payload := [0, 0, if (t.slot 1).valid && (t.slot 2).valid && (t.slot 4).valid then 1 else 0] }
       let due := (List.range (slotCountOf b)).filter fun i => (slotEntryOf b i).due 0
       (∃ (skipped : List Nat) (i : Nat), due = skipped ++ i :: t.mach.slotsLeft
          ∧ (∀ j ∈ skipped, t.slotFires (slotEntryOf b j) = false) ∧ t.slotFires (slotEntryOf b i) = true
          ∧ (let e := slotEntryOf b i
             t.mach.window = some
               { node := e.node, content := e.content, kind := slotKindOf e.kind, openAt := t.now + 9
                 closeAt := t.now + 9 + tenthMs e.window }
             ∧ t.sent.machinery = t.slotFrame e :: mark :: before))
        ∨ ((∀ j ∈ due, t.slotFires (slotEntryOf b j) = false) ∧ t.mach.slotsLeft = [] ∧ t.mach.window = none
            ∧ t.sent.machinery = mark :: before))

/-- The tow line after either reset (R85, R86, R100): every node ABSENT without a reply, no transaction and no restart,
and the first poll cycle begun from the first entry where the make-up table is VALID. -/
def State.towAtReset (t : State) (before : List Frame) : Prop :=
  t.towLine.nodes = t.pollList.map (fun _ => {}) ∧ t.towLine.access = none ∧ t.towLine.restartPending = false
  ∧ t.towLine.spent = none
  ∧ (t.tableImage 5 = none → t.towLine.running = false ∧ t.towLine.window = none ∧ t.sent.tow = before)
  ∧ (t.tableImage 5 ≠ none → t.towLine.running = true ∧ t.towLine.cycleStart = t.now
      ∧ (∀ (first : MakeUpEntry) (rest : List MakeUpEntry), t.pollList = first :: rest →
          t.towLine.complete = false ∧ t.towLine.pos = 1
          ∧ t.towLine.window = some { entry := 0, closeAt := t.now + ms 4 }
          ∧ t.sent.tow = t.pollFrame 0 first :: before)
      ∧ (t.pollList = [] → t.towLine.complete = true ∧ t.towLine.pos = 0 ∧ t.towLine.window = none
          ∧ t.towLine.nextDue = t.now + ms t.pollInterval ∧ t.sent.tow = before))

/-- The coupling supervisor after either reset, with split mode `mode` (R125, R126): the records of the table in use
UNKNOWN, the split ones OPENED in SPLITTING and SPLIT, and the ceiling at the floor under the start limit, which an
empty poll list's cycle ends at once (R116). -/
def State.couplingsAtReset (t : State) (mode : SplitMode) : Prop :=
  let start := if mode = .normal then t.towLimits.f else min t.towLimits.f t.towLimits.splitCap
  t.coup.mode = mode
  ∧ t.coup.records = t.couplingEntries.map (fun e =>
      if e.split = true ∧ (mode = .splitting ∨ mode = .split) then
        ({ state := .opened, cause := none } : Coupling)
      else { state := .unknown, cause := some .start })
  ∧ t.coup.rejoinStart = (if mode = .rejoining then some t.now else none)
  ∧ (t.tableImage 5 = none ∨ t.pollList ≠ [] → t.coup.startLimit = true ∧ t.coup.cTow = start)
  ∧ (t.tableImage 5 ≠ none → t.pollList = [] →
      t.coup.startLimit = false ∧ t.coup.cTow = min t.cCap (start + t.towLimits.recovery))

/-- The conditions after either reset (R175): every code NORMAL or ACTIVE-UNACKED by its source, and only the sources
that can stand after a reset are active. -/
def State.condsAtReset (t : State) : Prop :=
  (∀ i : Fin 45, t.cond.alarm[i.val] = if t.cond.source[i.val] then .activeUnacked else .normal)
  ∧ (∀ i : Fin 45, i.val + 1 ∉ [27, 38, 39, 43, 44, 45] → t.cond.source[i.val] = false)
  ∧ t.sourceOf 27 = (t.actuator? bowIx).isSome ∧ t.feedConditions ∧ t.storeConditions

/-! ## Events and authority -/

/-- Station n + 1, PRESENT, offers an event whose count differs from its baseline (R4). -/
def State.offers (s : State) (n : Fin 4) (count : Nat) : Prop :=
  (s.stationAt n).presence = .present ∧ (s.stationAt n).baseline ≠ some (count % 256)

/-- The step at `e` in which an event of station n + 1 is taken, before the event acts: its baseline becomes
the count (R4). -/
def State.tookEvent (s : State) (e : Env) (n : Fin 4) (count : Nat) : State :=
  (s.enter e).modStation n fun x => { x with baseline := some (count % 256) }

/-- The match test of R5 on station n + 1's last valid helm frame `f`: every lever is flagged valid and lies
within 50 of the lever in use on its channel, and the steering value lies within 50 of the one in use, both
clamped first. -/
def State.passesMatch (s : State) (n : Fin 4) (f : HelmFrame) : Prop :=
  (s.stationAt n).frame = some f
    ∧ (∀ c : Fin 4, f.valid[c.val] = true
        ∧ (max (-1000) (min 1000 f.levers[c.val]) - s.station.inUse.levers[c.val]).natAbs ≤ 50)
    ∧ (max (-450) (min 450 f.steering) - s.station.inUse.steering).natAbs ≤ 50

/-- `v'` is what the values in use `v` become under the holder's frame `f`: a valid lever's channel takes it,
an invalid one keeps its value, and steering, flanking and aux bits are the frame's (R15). -/
def ValuesInUse.follows (v v' : ValuesInUse) (f : HelmFrame) : Prop :=
  (∀ c : Fin 4, v'.levers[c.val] =
      if f.valid[c.val] then max (-1000) (min 1000 f.levers[c.val]) else v.levers[c.val])
    ∧ v'.steering = max (-450) (min 450 f.steering)
    ∧ v'.flanking = max (-450) (min 450 f.flanking)
    ∧ v'.aux = f.aux

/-- What station n + 1's becoming holder by its last valid frame `f` leaves (R6 to R8, R12, R13, R15, R16,
R37): it holds command, no request is pending, both timers are stopped, the values in use come from the
frame, HOLDER LOST and every gear fault are clear, engine by engine with the lead of its channel re-evaluated at each
(R46), and its result is ACCEPTED. -/
def State.becameHolder (s t : State) (n : Fin 4) (f : HelmFrame) : Prop :=
  t.station.holder = some n ∧ t.station.requester = none ∧ t.station.transferTimer = none
    ∧ t.station.orphanTimer = none ∧ t.station.followUpNext = s.station.followUpNext
    ∧ s.station.inUse.follows t.station.inUse f
    ∧ (∀ c : Fin 4, t.station.invalidTimer[c.val] = if f.valid[c.val] then none else some (s.now + sec 2))
    ∧ (∀ c : Fin 4, t.station.leverFault[c.val] = false)
    ∧ t.station.stations = Bank.upd s.station.stations n (fun x => { x with result := .accepted })
    ∧ t.sourceOf 5 = false ∧ t.sourceOf 6 = false
    ∧ (∀ m : Fin 4, t.engineAt m =
        { s.engineAt m with
          gearFault := false, member := (t.engineAt m).member, trim := (t.engineAt m).trim })
    ∧ (∀ m : Fin 4, (s.engineAt m).gearFault = true → t.sourceOf (11 + m.val) = false)
    ∧ ((∀ m : Fin 4, (s.engineAt m).gearFault = false) → t.prop = s.prop ∧ s.condsBut t [5, 6])
    ∧ t.prop = ((List.finRange 4).foldl (fun (v : State) (m : Fin 4) =>
        if (v.engineAt m).gearFault then
          ((v.modEngine m fun g => { g with gearFault := false }).setSource (11 + m.val) false).reLeadOf m
        else v) s).prop
    ∧ t.prop.sync = s.prop.sync
    ∧ s.condsBut t [5, 6, 11, 12, 13, 14, 19]
    ∧ s.sameBut t [.station, .prop, .cond]

/-- Station n + 1's record once a valid helm frame `f` has reached it (R2, R3): `comes` says that the frame
brings the station into PRESENT. -/
def Station.heardWith (x : Station) (f : HelmFrame) (now : Moment) : Station :=
  let comes := decide (x.presence ≠ .present ∧ 1 ≤ x.good)
  { x with
    frame := some f
    good := min 2 (x.good + 1)
    silence := some (now + ms 400)
    presence := if comes then .present else x.presence
    baseline := if comes then some f.count else x.baseline }

/-- `t` is `s` after a valid helm frame `f` of station n + 1 has reached the station unit at the step `e`,
before its event is looked at (R2, R3, R15, R16): the station's record takes it, STATION n SILENT clears when
the station returns from SILENT, a frame of the holder is taken into the values in use with the invalid timers
and lever faults following its valid flags, and one good frame is counted. -/
def State.heardFrame (s t : State) (e : Env) (n : Fin 4) (f : HelmFrame) : Prop :=
  let x := s.stationAt n
  t.now = max s.now e.time ∧ t.readBack = e.readBack
    ∧ t.station.stations = Bank.upd s.station.stations n (fun x => x.heardWith f t.now)
    ∧ t.station.holder = s.station.holder ∧ t.station.requester = s.station.requester
    ∧ t.station.transferTimer = s.station.transferTimer ∧ t.station.orphanTimer = s.station.orphanTimer
    ∧ t.station.followUpNext = s.station.followUpNext
    ∧ t.lines = { s.lines with stationGood := min 65535 (s.lines.stationGood + 1) }
    ∧ (if s.station.holder = some n then
        s.station.inUse.follows t.station.inUse f
          ∧ (∀ c : Fin 4, t.station.leverFault[c.val] = (s.station.leverFault[c.val] && !f.valid[c.val]))
          ∧ (∀ c : Fin 4, t.station.invalidTimer[c.val] =
              if f.valid[c.val] then none
              else if (s.station.invalidTimer[c.val]).isSome || s.station.leverFault[c.val] then
                s.station.invalidTimer[c.val]
              else some (t.now + sec 2))
          ∧ t.sourceOf 6 = t.station.leverFault.any id
          ∧ s.condsBut t [1 + n.val, 6]
       else
        t.station.inUse = s.station.inUse ∧ t.station.leverFault = s.station.leverFault
          ∧ t.station.invalidTimer = s.station.invalidTimer ∧ s.condsBut t [1 + n.val])
    ∧ (if x.presence = .silent ∧ 1 ≤ x.good then t.sourceOf (1 + n.val) = false
       else t.sourceOf (1 + n.val) = s.sourceOf (1 + n.val))
    ∧ s.sameBut t [.now, .readBack, .station, .cond, .lines]

/-- Code i + 1 is the highest-priority unacknowledged one (R165): the lowest class, and among equal classes
the lowest code. -/
def State.highestUnackedIs (s : State) (i : Fin 45) : Prop :=
  s.cond.alarm[i.val].unacked = true
    ∧ ∀ j : Fin 45, s.cond.alarm[j.val].unacked = true →
        (s.reaction i).cls < (s.reaction j).cls ∨ ((s.reaction i).cls = (s.reaction j).cls ∧ i.val ≤ j.val)

/-- Every split coupling record is in state `x` with its runs and sensor-fault count 0 and no UNKNOWN cause,
and every other record is as it was (R119 to R123). Only R119 names the sensor-fault count: that the other split
events zero it too is the model's choice (notes/assumptions/10.md). -/
def State.splitCouplingsBecame (s t : State) (x : CouplingState) : Prop :=
  ∀ i : Nat, t.coup.records[i]? = (s.coup.records[i]?).map fun c =>
    if (s.couplingEntries[i]?).any (·.split) then
      { c with state := x, taut := 0, slack := 0, sensor := 0, cause := none }
    else c

/-- What a change of split mode to `mode` leaves (R119 to R124): the split couplings in state `x`, or every record as it
was where the rule sets none; the ceiling no higher than before or than the new capped value; conditions 31 to 35
evaluated; TOW NODE SILENT and bow usability evaluated under the new mode (R58, R91); and split mode written to the
retained store (R187). `rejoin` is the rejoin timer's start under the new mode. -/
def State.modeChanged (s t : State) (x : Option CouplingState) (mode : SplitMode) (rejoin : Option Moment) : Prop :=
  (match x with
    | none => t.coup.records = s.coup.records
    | some y => s.splitCouplingsBecame t y)
  ∧ t.coup.mode = mode ∧ t.coup.rejoinStart = rejoin ∧ t.coup.startLimit = s.coup.startLimit
  ∧ t.coup.cTow = min s.coup.cTow t.cCap
  ∧ t.sourceOf 31 = t.coup.records.any (fun r => r.state = .slack)
  ∧ t.sourceOf 32 = t.coup.records.any (fun r => r.state = .overload)
  ∧ t.sourceOf 33 = t.coup.records.any (fun r => r.state = .parted)
  ∧ t.sourceOf 34 = decide (t.towLimits.blind ≤ t.blindCount)
  ∧ t.sourceOf 35 = false ∧ t.towSilentFollows ∧ s.bowEvaluated t
  ∧ s.condsBut t [27, 29, 31, 32, 33, 34, 35]
  ∧ t.store = s.store.wrote s.readBack .splitMode (fun r => { r with splitMode := some mode })
  ∧ s.sameBut t [.steer, .coup, .cond, .store]

/-- A poll restart handed over (R98): nothing while polling does not run; remembered while a poll or a node
transaction is in progress; otherwise a new cycle starts at this moment. -/
def State.restartedPolls (s t : State) : Prop :=
  if s.towLine.running = false then t = s
  else if s.towLine.window.isSome = true ∨ s.accessInFlight.isSome = true then
    t = { s with towLine := { s.towLine with restartPending := true } }
  else s.cycleStarts t

/-- Engine n + 1 is the lead that R46 names for channel c + 1: the lowest-numbered eligible engine of its
group. -/
def State.leadShouldBe (s : State) (c n : Fin 4) : Prop :=
  n ∈ s.group c ∧ s.eligible n = true ∧ ∀ m : Fin 4, m ∈ s.group c → s.eligible m = true → n.val ≤ m.val

/-- Engine n + 1 is the engine that channel c + 1's group has as its LEAD, the first of several. -/
def State.leadStands (s : State) (c n : Fin 4) : Prop :=
  n ∈ s.group c ∧ (s.engineAt n).member = .lead
    ∧ ∀ m : Fin 4, m ∈ s.group c → (s.engineAt m).member = .lead → n.val ≤ m.val

/-- SYNC DROPPED is active exactly while an armed group has a DROPPED engine (R48). -/
def State.syncDroppedFollows (t : State) : Prop :=
  t.sourceOf 19 = true ↔
    ∃ d m : Fin 4, t.prop.sync[d.val] = true ∧ m ∈ t.group d ∧ (t.engineAt m).member = .dropped

/-- What a re-evaluation of the lead of the armed channel c + 1 leaves where the lead changes from `was` to `now`
(R46): the new lead is LEAD; where there was a lead, every TRIMMED engine of the group becomes DROPPED if the old lead
is no longer eligible and WAITING if it is, and the old lead becomes WAITING; each of these with trim 0, and the rest
as it was, and SYNC DROPPED follows (R48). -/
def State.leadChanged (s t : State) (c : Fin 4) (was now : Option (Fin 4)) : Prop :=
  (∀ m : Fin 4,
    let g := s.engineAt m
    (now = some m → t.engineAt m = { g with member := .lead, trim := 0 })
    ∧ (m ∉ s.group c → t.engineAt m = g)
    ∧ (m ∈ s.group c → now ≠ some m →
        (was = none → t.engineAt m = g)
        ∧ ∀ o : Fin 4, was = some o →
          (g.member = .trimmed → t.engineAt m =
            { g with member := if s.eligible o then .waiting else .dropped, trim := 0 })
          ∧ (g.member = .lead → t.engineAt m = { g with member := .waiting, trim := 0 })
          ∧ (g.member ≠ .trimmed → g.member ≠ .lead → t.engineAt m = g)))
  ∧ t.syncDroppedFollows ∧ t.prop.sync = s.prop.sync ∧ s.condsBut t [19] ∧ s.sameBut t [.prop, .cond]

/-- The command of the table that a taken event code stands for (section 11.3, R4). -/
def eventCommand (e : Env) (station count code : Nat) : Instr :=
  match eventKindOf code with
  | .none => .noneEvent e station count code
  | .unknown => .noneEvent e station count code
  | .take => .take e station count
  | .release => .release e station count
  | .refuse => .refuse e station count
  | .seize => .seize e station count
  | .ack => .ack e station count
  | .split => .split e station count
  | .abortSplit => .abortSplit e station count
  | .recouple => .recouple e station count
  | .abortRejoin => .abortRejoin e station count
  | .transferStop => .transferStop e station count
  | .syncOn c => .syncOn e station count (c.val + 1)
  | .syncOff c => .syncOff e station count (c.val + 1)

end Sys2Proof.Machine
end

