-- ==== Sys2Proof/Certificates/Slice0/Obligations.lean ====
section
/-! DEFINITION. The statements about the model, for the provers. Each docstring names the rules it comes from.
Where a statement rests on a choice of the model, its docstring says so and names the log entry. -/

open Sys2Proof Sys2Proof.Machine

/-! ## Steps -/

/-- A step with a command at the front of the queue is `exec` of that command on the state with the rest of
the queue. -/
def Obligations.StepRunsTheFrontCommand : Prop :=
  ∀ (c : Instr) (rest : List Instr) (s : State),
    step { s with pending := c :: rest } = exec c { s with pending := rest }

/-- Every command completes, in every state: it answers a next state, leaves the queue as it is, and moves
the clock to its own moment or later, never back. The straps and the end of the last cold start are as they
were after every command but a cold start ("samples straps ADDR1:0, RATE and THOLD and holds their values until
the next cold start", R189). With nothing waiting a step is one clock unit of time (the model's choice:
notes/assumptions/1.md). -/
def Obligations.EveryCommandCompletes : Prop :=
  (∀ (c : Instr) (s : State), ∃ t : State, exec c s = .next t ∧ t.pending = s.pending ∧ s.now ≤ t.now
      ∧ c.env.time ≤ t.now
      ∧ ((∃ straps found, c = .coldStart c.env straps found ∧ t.straps = straps)
          ∨ (t.straps = s.straps ∧ t.epoch = s.epoch)))
    ∧ ∀ s : State, s.pending = [] → step s = .next { s with now := s.now + 1 }

/-! ## Reset -/

/-- The state after reset meets every invariant of Safety.lean. -/
def Obligations.ResetMeetsEveryInvariant : Prop :=
  State.reset.station.authorityFormed
    ∧ (∀ n : Fin 4, (State.reset.stationAt n).presenceFormed)
    ∧ State.reset.stationConditions
    ∧ (∀ n : Fin 4, (State.reset.engineAt n).trimFormed ∧ (State.reset.engineAt n).gearFormed)
    ∧ State.reset.gearConditions ∧ State.reset.openedFormed ∧ State.reset.ceilingFormed
    ∧ State.reset.booksBalanced ∧ State.reset.transfer.runFormed ∧ State.reset.cond.alarmsFollow
    ∧ State.reset.storeConditions ∧ State.reset.storesBounded

/-- What a cold start leaves of every block, whatever the part was doing (R22, R49, R65, R82, R100, R126, R145, R147,
R162, R175, R186, R189, R190, R194): the straps are sampled; the station unit, the propulsion unit, the steering unit,
the conditions and the three lines stand at their starts, the first machinery and poll cycles begun, with the frame of
the first slot that fires and the first poll on their lines; split mode is the stored one (NORMAL where none has ever
been written, SPLIT where its word cannot be corrected) with the start limit active until the first poll cycle is
complete; accounts and books are those of the last save, or empty and VALID where none has ever been made, or re-opened
INVALID where a word cannot be corrected, which makes an account save; the run history is the stored one less its
damaged records, and the run counter the stored one or, where its word cannot be corrected, the newest record's number;
every table is verified; no load is open and no request waits; every line counter is 0; and the retained tables stand as
they were. That the corrected-word count starts at what the cold start itself corrects, that a slot found bad shows the
image found there, that a slot shows no image while THOLD is set, and that an item whose every write has failed is
restored as one never written are the model's choices (notes/assumptions/13.md); so is that the first cycle's first slot
fires within this step (notes/assumptions/11.md), and that the setpoint of an engine that is not present is 0
(notes/assumptions/21.md). -/
def Obligations.ColdStartLeavesEveryBlockAtItsStart : Prop :=
  ∀ (e : Env) (straps : Straps) (found : ColdRead) (s : State), ∃ t : State,
    exec (.coldStart e straps found) s = .next t
      ∧ t.straps = straps ∧ t.now = max s.now e.time ∧ t.epoch = t.now
      ∧ t.stationsAtReset ∧ t.enginesAtReset ∧ t.actuatorsAtReset (fun _ => none) ∧ t.condsAtReset
      ∧ t.machineryAtReset s.sent.machinery ∧ t.towAtReset s.sent.tow ∧ t.sent.station = s.sent.station
      ∧ t.couplingsAtReset (match s.store.retained.splitMode with
          | none => .normal
          | some m => if found.splitMode then .split else m)
      ∧ (let stored := s.store.retained.fuel
         (∀ i : Fin 6, t.consumerAt i = { account := (match stored with
            | none => {}
            | some r => if i.val + 1 ∈ found.accounts then { valid := false } else r.accounts[i.val]) })
         ∧ (∀ i : Fin 12, t.tankRec i = { standing := t.gaugeAtReset i, book := (match stored with
            | none => {}
            | some r => if i.val + 1 ∈ found.books then { valid := false } else r.books[i.val]) })
         ∧ t.fuel.saveDue = t.now + sec 60
         ∧ (stored = none ∨ (found.accounts = [] ∧ found.books = []) →
            t.store.retained = s.store.retained ∧ t.store.writeFailures = 0 ∧ t.store.owed = []
              ∧ t.store.corrected = min 65535 found.corrected)
         ∧ (stored ≠ none → found.accounts ≠ [] ∨ found.books ≠ [] →
            let region : FuelRegion :=
              { accounts := t.fuel.consumers.map (·.account), books := t.fuel.tanks.map (·.book) }
            t.store.corrected = min 65535 (found.corrected + e.readBack.corrected.count .fuel)
            ∧ (Region.fuel ∉ e.readBack.failed → t.store.retained = { s.store.retained with fuel := some region }
                ∧ t.store.writeFailures = 0 ∧ t.store.owed = [])
            ∧ (Region.fuel ∈ e.readBack.failed → t.store.retained = s.store.retained ∧ t.store.writeFailures = 1
                ∧ t.store.owed = [.fuel])))
      ∧ (let history := ((s.store.retained.history.getD []).zipIdx.filter fun p =>
           !decide (p.2 + 1 ∈ found.history)).map (·.1)
         t.transfer =
           { history := history
             counter := (match s.store.retained.counter with
               | none => 0
               | some n => if found.counter then ((history.head?).map (·.number)).getD 0 else n) })
      ∧ (∀ id : Fin 13, t.slot id =
          if straps.thold then {} else match s.store.retained.tables[id.val] with
            | none => {}
            | some c =>
              let bad := decide (id.val + 1 ∈ found.tables) || c.damaged || crc16 c.image != c.crc
              { image := c.image, crc := c.crc, valid := !bad, fault := bad })
      ∧ t.store.buffer = none ∧ t.store.waitingLoad = none ∧ t.store.queue = [] ∧ t.store.head = .waiting
      ∧ t.store.restartDue = false ∧ t.store.scrubNext = 0
      ∧ t.store.scrubLast = t.now
      ∧ t.lines = {} ∧ t.tx = {} ∧ t.draws = s.draws ∧ t.pending = s.pending

/-- A control restart (R22, R49, R65, R81, R82, R100, R125, R147, R162, R175, R185, R190): taken once the OK reply to
RESTART has been sent. Stations, authority and values in use, the engines, the couplings and the machinery and tow lines
are as after a cold start, the poll in flight abandoned and new first cycles begun with their first frames, but that
split mode is kept, with its rejoin timer started afresh in REJOINING. The actuators keep their reported angles. The
accounts, books, levels and feed states, the straps, every table's image, validity and fault flag (but for a pending
slot table, which is put in use), the line counters and the scrub's position are kept. A run in progress ends with cause
RESTART and its record at the front of the history, with an account save and a write of the history. Every source that
stands is presented anew. The load, the queue and the waiting BEGIN are gone. That replies already composed, and a frame
that awaits its second attempt, are sent after the restart is the model's choice (notes/assumptions/6.md), and so is the
cause of a run that was in TRAILER, and that BOW stands SUSPENDED though its reported angle is kept
(notes/assumptions/10.md), that the first cycle's first slot fires within this step (notes/assumptions/11.md), that a
consumer's last temperature code is not kept and its baseline counts become 0, and that the setpoint of an engine that
is not present becomes 0 (notes/assumptions/21.md). -/
def Obligations.ControlRestartKeepsTablesAndAccounts : Prop :=
  ∀ (e : Env) (s : State), s.store.restartDue = true → ∃ t : State,
    exec (.controlRestart e) s = .next t
      ∧ t.straps = s.straps ∧ t.epoch = s.epoch ∧ t.lines = s.lines ∧ t.now = max s.now e.time
      ∧ t.stationsAtReset ∧ t.enginesAtReset ∧ t.actuatorsAtReset (fun i => (s.actuatorAt i).reported)
      ∧ t.condsAtReset ∧ t.machineryAtReset s.sent.machinery ∧ t.towAtReset s.sent.tow
      ∧ t.couplingsAtReset s.coup.mode
      ∧ (∀ i : Fin 6, t.consumerAt i = { account := (s.consumerAt i).account })
      ∧ (∀ i : Fin 12, t.tankRec i =
          { s.tankRec i with
            standing := t.gaugeAtReset i, discrepancy := false, runStart := none, lastWasLevel := false })
      ∧ t.fuel.saveDue = t.now + sec 60
      ∧ (let kept (history : List Run) : TransferUnit :=
           { history := history, counter := s.transfer.counter
             pump := { lastTemp := s.transfer.pump.lastTemp }, idleCount := s.transfer.idleCount }
         (s.transfer.state = .idle → t.transfer = kept s.transfer.history
            ∧ t.store.retained = s.store.retained ∧ t.store.writeFailures = s.store.writeFailures
            ∧ t.store.owed = s.store.owed ∧ t.store.corrected = s.store.corrected)
         ∧ ∀ r : Run, s.transfer.state ≠ .idle → s.transfer.run = some r →
            let history := ({ r with
              cause := some .restart, incomplete := true
              duration := some (min 65535 ((t.now - r.started) / 100000)) } :: s.transfer.history).take 8
            let saved := (s.store.saved e.readBack
                { accounts := s.fuel.consumers.map (·.account), books := s.fuel.tanks.map (·.book) } history
                s.transfer.counter s.coup.mode).wrote e.readBack .history
              fun x => { x with history := some history }
            t.transfer = kept history ∧ t.store.retained = saved.retained
              ∧ t.store.writeFailures = saved.writeFailures ∧ t.store.owed = saved.owed
              ∧ t.store.corrected = saved.corrected)
      ∧ (∀ id : Fin 13, id ≠ 4 ∨ s.mach.pendingTable = none → t.slot id = s.slot id)
      ∧ (∀ b : Bytes, s.mach.pendingTable = some b →
          t.tableImage 4 = some b ∧ (t.slot 4).fault = (s.slot 4).fault)
      ∧ t.store.buffer = none ∧ t.store.waitingLoad = none ∧ t.store.queue = [] ∧ t.store.head = .waiting
      ∧ t.store.restartDue = false ∧ t.store.scrubNext = s.store.scrubNext
      ∧ t.store.scrubLast = s.store.scrubLast
      ∧ t.tx = { s.tx with followUps := 0 } ∧ t.sent.station = s.sent.station ∧ t.draws = s.draws
      ∧ t.pending = s.pending

/-! ## Invariants that every step keeps -/

/-- "At most one authority request is pending, and its requester is never the holder" (section 1.3): every
step keeps the authority state one of its forms. -/
def Obligations.StepKeepsTheAuthorityForms : Prop :=
  ∀ s t : State, s.station.authorityFormed → step s = .next t → t.station.authorityFormed

/-- Every step keeps a PRESENT station heard twice with its silence timer running (R2 to R4), and STATION n
SILENT and LEVER FAULT active exactly while their causes stand (R3, R16). -/
def Obligations.StepKeepsPresenceAndItsConditions : Prop :=
  ∀ s t : State, (∀ n : Fin 4, (s.stationAt n).presenceFormed) → s.stationConditions → step s = .next t →
    (∀ n : Fin 4, (t.stationAt n).presenceFormed) ∧ t.stationConditions

/-- Every step keeps each engine's trim within ±800 and 0 for an engine that is not TRIMMED (R45), its gear
state, timers and disengage phase together (R31 to R36), and GEAR FAULT n with the gear fault (R36, R37). -/
def Obligations.StepKeepsTheEngineRecords : Prop :=
  ∀ s t : State, (∀ n : Fin 4, (s.engineAt n).trimFormed ∧ (s.engineAt n).gearFormed) → s.gearConditions →
    step s = .next t →
    (∀ n : Fin 4, (t.engineAt n).trimFormed ∧ (t.engineAt n).gearFormed) ∧ t.gearConditions

/-- "A coupling is OPENED only if it is a split coupling and split mode is SPLITTING or SPLIT" (R124), in
every state a step leads to. -/
def Obligations.StepKeepsOpenedCouplingsSplit : Prop :=
  ∀ s t : State, s.openedFormed → step s = .next t → t.openedFormed

/-- The published tow ceiling never stands above the capped value (R114, R115), in every state a step leads
to. -/
def Obligations.StepKeepsTheCeilingUnderItsCap : Prop :=
  ∀ s t : State, s.ceilingFormed → step s = .next t → t.ceilingFormed

/-- "book = opening + receipts + in − out − consumption" (R136), in every state a step leads to. -/
def Obligations.StepKeepsEveryBookBalanced : Prop :=
  ∀ s t : State, s.booksBalanced → step s = .next t → t.booksBalanced

/-- Every step keeps a run record exactly while the run state is not IDLE, with the start confirm timer running in
STARTING and the trailer timer in TRAILER alone (R149, R152, R155). That the start confirm timer is stopped when a run
leaves STARTING for TRAILER, and either timer at a run end, is the model's choice (notes/assumptions/21.md). -/
def Obligations.StepKeepsTheTransferRun : Prop :=
  ∀ s t : State, s.transfer.runFormed → step s = .next t → t.transfer.runFormed

/-- Every step keeps a code active in its alarm state exactly while its source flag is (R164), and the table
store's conditions 43 to 45 with their causes (R145, R176). -/
def Obligations.StepKeepsTheAlarmStates : Prop :=
  ∀ s t : State, s.cond.alarmsFollow → s.storeConditions → step s = .next t →
    t.cond.alarmsFollow ∧ t.storeConditions

/-- Every step keeps the management queue within 4 requests (R178), the run history within 8 records (R157),
and every line and store counter within 65 535 (R186, R187, R194). -/
def Obligations.StepKeepsTheBounds : Prop :=
  ∀ s t : State, s.storesBounded → step s = .next t → t.storesBounded

/-! ## Stations: helm frames (R2 to R4, R15, R16, R192) -/

/-- A helm frame of a fitted station addressed to the part (R2, R3, R15, R16) reaches its station's record and,
from the holder, the values in use. If the station is not PRESENT or its baseline equals the frame's count,
that is all (R4); if it is PRESENT and the count differs, the frame's event follows, exactly as the command of
the table for that event. -/
def Obligations.HelmFrameIsHeardAndItsEventTaken : Prop :=
  ∀ (e : Env) (s : State) (n : Fin 4) (payload : Bytes) (f : HelmFrame),
    helmFrameOf payload = some f → (s.stationAt n).fitted = true →
    ((s.stationAt n).presence ≠ .present ∨ (s.stationAt n).baseline = some f.count →
      ∃ t : State, exec (.helmFrame e s.ownAddress (n.val + 1) payload) s = .next t ∧ s.heardFrame t e n f)
    ∧ ((s.stationAt n).presence = .present → (s.stationAt n).baseline ≠ some f.count →
      ∃ h : State, s.heardFrame h e n f
        ∧ exec (.helmFrame e s.ownAddress (n.val + 1) payload) s
            = exec (eventCommand e (n.val + 1) f.count f.code) h)

/-! ## Stations: events (R4, R18) -/

/-- An event whose station is not PRESENT, or whose count equals the baseline, is not taken (R4); a taken
event with code NONE only moves the baseline, and one whose code is none of the codes moves it and is answered
STATE. That a row's events can be named apart from their frames is the model's choice
(notes/assumptions/4.md). -/
def Obligations.OnlyNewEventsAreTaken : Prop :=
  ∀ (e : Env) (s : State) (n : Fin 4) (count code : Nat),
    (¬ s.offers n count → exec (eventCommand e (n.val + 1) count code) s = .next (s.enter e))
    ∧ (s.offers n count → eventKindOf code = .none →
        exec (.noneEvent e (n.val + 1) count code) s = .next (s.tookEvent e n count))
    ∧ (s.offers n count → eventKindOf code = .unknown →
        exec (.noneEvent e (n.val + 1) count code) s = .next ((s.tookEvent e n count).setResult n .state))

/-- Every event that only the holder may send is answered NOT HOLDER to any other sender, and changes nothing
else (R9, R10, R18, R118). -/
def Obligations.OnlyTheHolderMayOrder : Prop :=
  ∀ (e : Env) (s : State) (n c : Fin 4) (count : Nat) (i : Instr),
    s.offers n count → s.station.holder ≠ some n →
    i ∈ [Instr.release e (n.val + 1) count, .refuse e (n.val + 1) count, .syncOn e (n.val + 1) count (c.val + 1),
      .syncOff e (n.val + 1) count (c.val + 1), .split e (n.val + 1) count, .abortSplit e (n.val + 1) count,
      .recouple e (n.val + 1) count, .abortRejoin e (n.val + 1) count] →
    exec i s = .next ((s.tookEvent e n count).setResult n .notHolder)

/-- TAKE in every authority form (R5, R6, R7): from the holder STATE; with no request pending, PENDING with the
transfer timer at 10 s while command is held, and otherwise command or MISMATCH by the match test; a
requester's own repeated TAKE is PENDING again or tested; any other sender gets BUSY. -/
def Obligations.TakeFollowsTheAuthorityForm : Prop :=
  ∀ (e : Env) (s : State) (n : Fin 4) (count : Nat), s.offers n count →
    let u := s.tookEvent e n count
    let step := exec (.take e (n.val + 1) count) s
    (s.station.holder = some n → step = .next (u.setResult n .state))
    ∧ (∀ h : Fin 4, s.station.holder = some h → h ≠ n →
        (s.station.requester = none →
          step = .next ((u.setRequest (some n) (some (u.now + sec 10))).setResult n .pending))
        ∧ (s.station.requester = some n → step = .next (u.setResult n .pending))
        ∧ (∀ r : Fin 4, s.station.requester = some r → r ≠ n → step = .next (u.setResult n .busy)))
    ∧ (s.station.holder = none →
        (∀ r : Fin 4, s.station.requester = some r → r ≠ n → step = .next (u.setResult n .busy))
        ∧ (s.station.requester = none ∨ s.station.requester = some n →
            (∀ f : HelmFrame, s.passesMatch n f → ∃ t : State, step = .next t ∧ u.becameHolder t n f)
            ∧ ((∀ f : HelmFrame, ¬ s.passesMatch n f) → step = .next (u.setResult n .mismatch))))

/-- RELEASE by the holder (R8, R9): with a request pending the requester becomes holder if it passes the match
test, both results ACCEPTED, and otherwise both get MISMATCH with the request still pending; with none
pending, every lever in use within its dead band makes the form FREE with every value in use 0, and otherwise
the answer is STATE. -/
def Obligations.ReleaseHandsOverOrFrees : Prop :=
  ∀ (e : Env) (s : State) (n : Fin 4) (count : Nat), s.offers n count → s.station.holder = some n →
    let u := s.tookEvent e n count
    let step := exec (.release e (n.val + 1) count) s
    (∀ r : Fin 4, s.station.requester = some r →
      (∀ f : HelmFrame, s.passesMatch r f →
        ∃ t : State, step = .next (t.setResult n .accepted) ∧ u.becameHolder t r f)
      ∧ ((∀ f : HelmFrame, ¬ s.passesMatch r f) →
          step = .next ((u.setResult n .mismatch).setResult r .mismatch)))
    ∧ (s.station.requester = none →
        ((∀ c : Fin 4, (s.station.inUse.levers[c.val]).natAbs ≤ s.deadBand c) →
          ∃ t : State, step = .next t
            ∧ t.station = { (u.setResult n .accepted).station with
                holder := none, inUse := {}, invalidTimer := Vector.replicate 4 none
                leverFault := Vector.replicate 4 false }
            ∧ t.sourceOf 6 = false ∧ s.condsBut t [6] ∧ u.sameBut t [.station, .cond])
        ∧ ((∃ c : Fin 4, s.deadBand c < (s.station.inUse.levers[c.val]).natAbs) →
            step = .next (u.setResult n .state)))

/-- REFUSE (R10): by the holder it ends a pending request, the requester's result REFUSED and the holder's
ACCEPTED, or is answered STATE when none is pending; from any other station it gets NOT HOLDER. -/
def Obligations.RefuseEndsTheRequest : Prop :=
  ∀ (e : Env) (s : State) (n : Fin 4) (count : Nat), s.offers n count →
    let u := s.tookEvent e n count
    let step := exec (.refuse e (n.val + 1) count) s
    (s.station.holder = some n →
      (∀ r : Fin 4, s.station.requester = some r →
        step = .next (((u.setRequest none none).setResult r .refused).setResult n .accepted))
      ∧ (s.station.requester = none → step = .next (u.setResult n .state)))
    ∧ (s.station.holder ≠ some n → step = .next (u.setResult n .notHolder))

/-- SEIZE (R12): from a WHEELHOUSE it gets CLASS; from an ENGINE ROOM station it ends any request of another
station and any holding of another with the result SEIZED, and makes the sender holder without a match test;
from the holder itself it only ends a pending request. -/
def Obligations.SeizeTakesCommandForTheEngineRoom : Prop :=
  ∀ (e : Env) (s : State) (n : Fin 4) (count : Nat), s.offers n count →
    let u := s.tookEvent e n count
    let step := exec (.seize e (n.val + 1) count) s
    ((s.stationAt n).cls = .wheelhouse → step = .next (u.setResult n .class))
    ∧ ((s.stationAt n).cls = .engineRoom →
        ∀ v : State,
          (v = match s.station.requester with
            | none => u
            | some r =>
              if r = n then u.setRequest none none else (u.setRequest none none).setResult r .seized) →
          (s.station.holder = some n → step = .next (v.setResult n .accepted))
          ∧ (∀ (x : State) (f : HelmFrame), s.station.holder ≠ some n → (s.stationAt n).frame = some f →
              (x = match s.station.holder with
                | none => v
                | some h => v.setResult h .seized) →
              ∃ t : State, step = .next t ∧ x.becameHolder t n f))

/-- SYNC ON and SYNC OFF by the holder (R18, R44, R46): always ACCEPTED. Arming a disarmed channel makes the
lowest-numbered eligible engine of its group LEAD and every other engine of the group WAITING; disarming an armed
one makes every engine of the group OUTSIDE; all with trim 0. SYNC DROPPED then stands exactly while an armed group
has a DROPPED engine (R48). Arming an armed channel or disarming a disarmed one changes nothing else.

The lead of an armed channel (R46, R48), re-evaluated at every change of eligibility: the lowest-numbered eligible
engine of the group. Where it changes, the new lead becomes LEAD; the TRIMMED engines become DROPPED where the old
lead is lost and WAITING where it only gives way; the old lead becomes WAITING; and SYNC DROPPED follows. The engine
reports, losses and returns, the gear faults and the new holder that make it are in the statements on those. -/
def Obligations.SyncArmsAndDisarmsAChannel : Prop :=
  (∀ (e : Env) (s : State) (n c : Fin 4) (count : Nat), s.offers n count → s.station.holder = some n →
    let u := s.tookEvent e n count
    (s.prop.sync[c.val] = true →
      exec (.syncOn e (n.val + 1) count (c.val + 1)) s = .next (u.setResult n .accepted)
      ∧ ∃ t : State, exec (.syncOff e (n.val + 1) count (c.val + 1)) s = .next t
          ∧ t.prop.sync = s.prop.sync.set c.val false
          ∧ (∀ m : Fin 4, t.engineAt m =
              if m ∈ s.group c then { s.engineAt m with member := .outside, trim := 0 } else s.engineAt m)
          ∧ t.syncDroppedFollows ∧ s.condsBut t [19] ∧ t.station = (u.setResult n .accepted).station
          ∧ u.sameBut t [.station, .prop, .cond])
    ∧ (s.prop.sync[c.val] = false →
      exec (.syncOff e (n.val + 1) count (c.val + 1)) s = .next (u.setResult n .accepted)
      ∧ ∃ t : State, exec (.syncOn e (n.val + 1) count (c.val + 1)) s = .next t
          ∧ t.prop.sync = s.prop.sync.set c.val true
          ∧ (∀ m : Fin 4, (s.leadShouldBe c m →
                t.engineAt m = { s.engineAt m with member := .lead, trim := 0 })
              ∧ (m ∈ s.group c → ¬ s.leadShouldBe c m →
                t.engineAt m = { s.engineAt m with member := .waiting, trim := 0 })
              ∧ (m ∉ s.group c → t.engineAt m = s.engineAt m))
          ∧ t.syncDroppedFollows ∧ s.condsBut t [19] ∧ t.station = (u.setResult n .accepted).station
          ∧ u.sameBut t [.station, .prop, .cond]))
  ∧ (∀ (s : State) (c : Fin 4) (was now : Option (Fin 4)), (∀ n : Fin 4, was = some n ↔ s.leadStands c n) →
    (∀ n : Fin 4, now = some n ↔ s.leadShouldBe c n) →
    (s.prop.sync[c.val] = false ∨ was = now → s.reLead c = s)
    ∧ (s.prop.sync[c.val] = true → was ≠ now → s.leadChanged (s.reLead c) c was now))
  ∧ ∀ (s : State) (n : Fin 4),
    (s.engine? n = none → s.reLeadOf n = s)
    ∧ ∀ x : EngineEntry, s.engine? n = some x → s.reLeadOf n = s.reLead (ix4 x.channel)

/-- ACK (R18, R164, R165, R172) is ACCEPTED from any PRESENT station; it acknowledges the highest-priority
unacknowledged code, and nothing else, or changes nothing when no code is unacknowledged. -/
def Obligations.AckAcknowledgesTheHighestCode : Prop :=
  ∀ (e : Env) (s : State) (n : Fin 4) (count : Nat), s.offers n count →
    let u := s.tookEvent e n count
    ((∀ i : Fin 45, (s.cond.alarm[i.val]).unacked = false) →
      exec (.ack e (n.val + 1) count) s = .next (u.setResult n .accepted))
    ∧ (∀ i : Fin 45, s.highestUnackedIs i →
        exec (.ack e (n.val + 1) count) s = .next
          { u.setResult n .accepted with
            cond := { s.cond with
              alarm := s.cond.alarm.set i.val
                (if s.cond.alarm[i.val] = .activeUnacked then .activeAcked else .normal) } })

/-! ## Split events (R118 to R124) -/

/-- From the holder, each split event taken outside the one mode it serves is answered STATE and changes
nothing else (R118 to R123), and so is a SPLIT in NORMAL without a cut B entry, without a split coupling, or
with a split coupling that is neither MADE nor SLACK (R119). -/
def Obligations.SplitEventsOutOfPlaceAreAnsweredState : Prop :=
  ∀ (e : Env) (s : State) (n : Fin 4) (count : Nat), s.offers n count → s.station.holder = some n →
    let answer := Host.Outcome.next ((s.tookEvent e n count).setResult n .state)
    (s.coup.mode ≠ .normal → exec (.split e (n.val + 1) count) s = answer)
    ∧ (s.coup.mode ≠ .splitting → exec (.abortSplit e (n.val + 1) count) s = answer)
    ∧ (s.coup.mode ≠ .split → exec (.recouple e (n.val + 1) count) s = answer)
    ∧ (s.coup.mode ≠ .rejoining → exec (.abortRejoin e (n.val + 1) count) s = answer)
    ∧ ((∀ m ∈ s.pollList, m.cutB = false) ∨ (∀ c ∈ s.couplingEntries, c.split = false)
        ∨ (∃ (i : Nat) (r : Coupling) (c : CouplingEntry), s.coup.records[i]? = some r
            ∧ s.couplingEntries[i]? = some c ∧ c.split = true ∧ r.state ≠ .made ∧ r.state ≠ .slack) →
        exec (.split e (n.val + 1) count) s = answer)

/-- SPLIT in NORMAL with its conditions met (R119, R120, R124) and RECOUPLE in SPLIT (R121, R122, R124): the split
couplings OPENED or UNMADE, split mode SPLITTING or REJOINING with all that follows a change of it, the BOW record and
TOW NODE SILENT among that (R58, R91); a poll restart handed over; and then the test of R120 or R122 made once: split
mode goes straight on to SPLIT when every cut B node is SILENT, or to NORMAL when every cut B node is PRESENT and there
is no split coupling left to be MADE. That RECOUPLE zeroes the sensor-fault counts with the runs is the model's choice,
and so is that the split mode write and the poll restart are made in that order (notes/assumptions/10.md). -/
def Obligations.SplitAndRecoupleChangeTheMode : Prop :=
  ∀ (e : Env) (s : State) (n : Fin 4) (count : Nat), s.offers n count → s.station.holder = some n →
    let u := s.tookEvent e n count
    (s.coup.mode = .normal → (∃ m ∈ s.pollList, m.cutB = true) → (∃ c ∈ s.couplingEntries, c.split = true) →
      (∀ (i : Nat) (r : Coupling) (c : CouplingEntry), s.coup.records[i]? = some r →
        s.couplingEntries[i]? = some c → c.split = true → r.state = .made ∨ r.state = .slack) →
      ∃ v w x : State, exec (.split e (n.val + 1) count) s = .next (x.setResult n .accepted)
        ∧ u.modeChanged v (some .opened) .splitting none ∧ v.restartedPolls w
        ∧ (s.cutBAll .silent = true → w.modeChanged x none .split none) ∧ (s.cutBAll .silent = false → x = w))
    ∧ (s.coup.mode = .split →
      ∃ v w x : State, exec (.recouple e (n.val + 1) count) s = .next (x.setResult n .accepted)
        ∧ u.modeChanged v (some .unmade) .rejoining (some u.now) ∧ v.restartedPolls w
        ∧ ((∃ (i : Nat) (r : Coupling) (c : CouplingEntry), s.coup.records[i]? = some r
              ∧ s.couplingEntries[i]? = some c ∧ c.split = true) ∨ s.cutBAll .present = false → x = w)
        ∧ ((∀ (i : Nat) (r : Coupling) (c : CouplingEntry), s.coup.records[i]? = some r →
              s.couplingEntries[i]? = some c → c.split = false) → s.cutBAll .present = true →
            w.modeChanged x none .normal none))

/-- ABORT SPLIT in SPLITTING returns split mode to NORMAL with every split coupling UNMADE, and ABORT REJOIN in
REJOINING returns it to SPLIT with every split coupling OPENED, each with all that follows a change of split mode, the
BOW record and TOW NODE SILENT among that (R58, R91); neither makes a poll restart (R120, R123, R124). That they zero
the sensor-fault counts with the runs is the model's choice (notes/assumptions/10.md). -/
def Obligations.AbortsReturnTheSplitMode : Prop :=
  ∀ (e : Env) (s : State) (n : Fin 4) (count : Nat), s.offers n count → s.station.holder = some n →
    let u := s.tookEvent e n count
    (s.coup.mode = .splitting →
      ∃ v : State, exec (.abortSplit e (n.val + 1) count) s = .next (v.setResult n .accepted)
        ∧ u.modeChanged v (some .unmade) .normal none)
    ∧ (s.coup.mode = .rejoining →
      ∃ v : State, exec (.abortRejoin e (n.val + 1) count) s = .next (v.setResult n .accepted)
        ∧ u.modeChanged v (some .opened) .split none)

/-! ## Stations: timers (R3, R11, R13, R14, R16) -/

/-- The station timers. A station's silence timer expires (R3, R13, R14): its good-frame count returns to 0; if
it was PRESENT it becomes SILENT with STATION n SILENT active, the holder's silence begins orphan hold (values in
use frozen, orphan timer at 5 s, invalid timers stopped, HOLDER LOST active, a request left pending), and a
requester's silence ends its request with TIMEOUT. The transfer timer's expiry ends the pending request with
TIMEOUT for its requester (R11), the orphan timer's makes every value in use 0 (R13), and an invalid timer's
makes its channel's lever in use 0 and puts the channel in lever fault (R16). A timer that does not run expires
without effect. -/
def Obligations.StationTimersExpire : Prop :=
  ∀ (e : Env) (s : State),
    (∀ n : Fin 4,
      ((s.stationAt n).silence = none → exec (.silenceTimerExpiry e (n.val + 1)) s = .next (s.enter e))
      ∧ ∀ d : Moment, (s.stationAt n).silence = some d →
        ∃ t : State, exec (.silenceTimerExpiry e (n.val + 1)) s = .next t
          ∧ t.now = max (max s.now e.time) d
          ∧ (let x := s.stationAt n
             let held := s.station.holder = some n
             let asked := s.station.requester = some n
             if x.presence = .present then
               t.stationAt n = { x with
                   good := 0, silence := none, presence := .silent
                   result := if ¬held ∧ asked then .timeout else x.result }
                 ∧ t.station = { s.station with
                     stations := t.station.stations
                     holder := if held then none else s.station.holder
                     orphanTimer := if held then some (t.now + sec 5) else s.station.orphanTimer
                     invalidTimer := if held then Vector.replicate 4 none else s.station.invalidTimer
                     requester := if ¬held ∧ asked then none else s.station.requester
                     transferTimer := if ¬held ∧ asked then none else s.station.transferTimer }
                 ∧ t.sourceOf (1 + n.val) = true ∧ (held → t.sourceOf 5 = true)
                 ∧ s.condsBut t (if held then [1 + n.val, 5] else [1 + n.val])
             else
               t.stationAt n = { x with good := 0, silence := none }
                 ∧ t.station = { s.station with stations := t.station.stations } ∧ t.cond = s.cond)
          ∧ Bank.sameBut s.station.stations t.station.stations [n]
          ∧ s.sameBut t [.now, .readBack, .station, .cond])
    ∧ (s.station.transferTimer = none → exec (.transferTimerExpiry e) s = .next (s.enter e))
    ∧ (s.station.orphanTimer = none → exec (.orphanTimerExpiry e) s = .next (s.enter e))
    ∧ (∀ (d : Moment) (r : Fin 4), s.station.transferTimer = some d → s.station.requester = some r →
        exec (.transferTimerExpiry e) s = .next
          ((((s.enter e).withNow (max (max s.now e.time) d)).setRequest none none).setResult r .timeout))
    ∧ (∀ d : Moment, s.station.orphanTimer = some d →
        ∃ t : State, exec (.orphanTimerExpiry e) s = .next t ∧ t.now = max (max s.now e.time) d
          ∧ t.station = { s.station with
              orphanTimer := none, inUse := {}, invalidTimer := Vector.replicate 4 none
              leverFault := Vector.replicate 4 false }
          ∧ t.sourceOf 6 = false ∧ s.condsBut t [6]
          ∧ s.sameBut t [.now, .readBack, .station, .cond])
    ∧ (∀ c : Fin 4,
        (s.station.invalidTimer[c.val] = none →
          exec (.leverInvalidTimerExpiry e (c.val + 1)) s = .next (s.enter e))
        ∧ ∀ d : Moment, s.station.invalidTimer[c.val] = some d →
          ∃ t : State, exec (.leverInvalidTimerExpiry e (c.val + 1)) s = .next t
            ∧ t.now = max (max s.now e.time) d
            ∧ t.station = { s.station with
                inUse := { s.station.inUse with levers := s.station.inUse.levers.set c.val 0 }
                invalidTimer := s.station.invalidTimer.set c.val none
                leverFault := s.station.leverFault.set c.val true }
            ∧ t.sourceOf 6 = true ∧ s.condsBut t [6]
            ∧ s.sameBut t [.now, .readBack, .station, .cond])

/-! ## Propulsion (chapter 2) -/

/-- The gear transitions of a demand computation (R32, R33, R34): a direction is kept while it is wanted; it is
left at once for NEUTRAL or SHIFTING with the disengage phase back at RPM WAIT and both timers stopped; from
NEUTRAL a direction engages at once when it is the last engaged one, or none was, or the phase is COMPLETE, and
otherwise the gear shifts toward it; from SHIFTING it engages when the phase is COMPLETE. The confirm timer
starts at 4 s with an engagement, unless LOCAL is set. That a SHIFTING engine whose phase is COMPLETE engages the
direction this computation finds wanted, also one other than its shift target, is the model's choice
(notes/assumptions/10.md). -/
def Obligations.GearsEngageOnlyOnceDisengaged : Prop :=
  ∀ (now : Moment) (g : Engine) (w : Option Direction), g.gearFormed →
    let h := g.gearStep now w
    let engaged (d : Direction) : Engine :=
      { g with
        gear := d.gear, shiftTarget := none, unconfirmed := true
        confirm := if g.flags.any (·.local_) then none else some (now + sec 4) }
    (∀ d : Direction, g.gear = d.gear →
      (w = some d → h = g)
      ∧ (w ≠ some d → h =
          { g with
            gear := if w = none then .neutral else .shifting
            shiftTarget := w, lastDir := some d, confirm := none, unconfirmed := false, phase := .rpmWait
            dwell := none }))
    ∧ (g.gear = .neutral →
        (w = none → h = g)
        ∧ ∀ d : Direction, w = some d →
          (g.lastDir = none ∨ g.lastDir = some d ∨ g.phase = .complete → h = engaged d)
          ∧ (g.lastDir ≠ none → g.lastDir ≠ some d → g.phase ≠ .complete →
              h = { g with gear := .shifting, shiftTarget := some d }))
    ∧ (g.gear = .shifting →
        (w = none → h = { g with gear := .neutral, shiftTarget := none })
        ∧ ∀ d : Direction, w = some d →
          (g.phase = .complete → h = engaged d)
          ∧ (g.phase ≠ .complete → h = { g with shiftTarget := some d }))
    ∧ h.gearFormed

/-- A demand computation (R39 to R43): the speed command is the setpoint with trim, rounded to the nearest rpm and
clamped between idle and the ceiling rpm of that same computation; it is exactly idle in NEUTRAL and SHIFTING; the
setpoint never stands above 16 times the ceiling rpm, never falls below 16 times idle from at or above it, and rises
by at most one ramp step. An EXCHANGE slot sends that command to the engine's node, under the least of the three
ceilings. The curve gives the thrust (R39): the first y below the first breakpoint, the last beyond the last, a
straight line between two, on breakpoints as R25 admits them.

The computation's stages (R31, R37, R40, R41): the lever in use within ±1000 gives the wanted direction, the gear
moves on it, the thrust under the ceiling gives the target rpm, and the setpoint rises by r_u or falls by r_d toward
16 times the target and is then cut to 16 times the ceiling rpm; then the trim stage (R38, R45, R47). A gear fault
that the lever in its dead band clears has the lead re-evaluated before the wanted direction is found (R37, R46). An
engine that is not its armed group's lead becomes or stays TRIMMED, WAITING or DROPPED by the tests of R47 in their
order, and its trim follows the lead's speed while both engines are fresh. -/
def Obligations.DemandObeysTheCeilings : Prop :=
  (∀ (points : List (Nat × Nat)) (m : Nat), points.Pairwise (fun p q => p.1 < q.1 ∧ p.2 ≤ q.2) →
    (∀ p : Nat × Nat, points.head? = some p → m < p.1 → curveAt m points = p.2)
    ∧ (∀ p : Nat × Nat, points.getLast? = some p → p.1 < m → curveAt m points = p.2)
    ∧ ∀ (i : Nat) (p q : Nat × Nat), points[i]? = some p → points[i + 1]? = some q → p.1 ≤ m → m ≤ q.1 →
        curveAt m points = p.2 + (q.2 - p.2) * (m - p.1) / (q.1 - p.1))
  ∧ (∀ (k : Nat) (eligible : Bool) (lead : Option Engine) (g : Engine),
    let gearOk := ∃ l : Engine, lead = some l ∧ g.gear = l.gear ∧ (g.gear = .ahead ∨ g.gear = .astern)
    let apart (l : Engine) (own led : Nat) : Prop := lead = some l ∧ g.rpm = some own ∧ l.rpm = some led
    let speedOk := ∃ (l : Engine) (own led : Nat), apart l own led ∧ ((led : Int) - own).natAbs ≤ 150
    let followed (l : Engine) (own led : Nat) (trim : Int) : Int :=
      if g.fresh = true ∧ l.fresh = true then max (-800) (min 800 (trim + ((led : Int) - own) * k)) else trim
    let h := Engine.evalMember k eligible lead g
    (g.member = .trimmed →
      (g.flags.any (·.local_) = true ∨ g.gearFault = true → h = { g with member := .dropped, trim := 0 })
      ∧ (g.flags.any (·.local_) = false → g.gearFault = false →
          (¬ gearOk → h = { g with member := .waiting, trim := 0 })
          ∧ (gearOk → g.standing = .lost → h = g)
          ∧ (gearOk → g.standing ≠ .lost → ¬ speedOk → h = { g with member := .dropped, trim := 0 })
          ∧ (gearOk → g.standing ≠ .lost → speedOk → ∀ (l : Engine) (own led : Nat), apart l own led →
              h = { g with trim := followed l own led g.trim })))
    ∧ (g.member = .waiting ∨ g.member = .dropped →
        (eligible = true → gearOk → speedOk → ∀ (l : Engine) (own led : Nat), apart l own led →
          h = { g with member := .trimmed, trim := followed l own led 0 })
        ∧ (¬ (eligible = true ∧ gearOk ∧ speedOk) → h = { g with trim := 0 })))
  ∧ (∀ (s : State) (n c : Fin 4),
    let g := (s.stageTrim n c).engineAt n
    (s.prop.sync[c.val] = false ∨ (s.engineAt n).member = .lead → g = { s.engineAt n with trim := 0 })
    ∧ (s.prop.sync[c.val] = true → (s.engineAt n).member ≠ .lead →
        g = Engine.evalMember s.syncGain (s.eligible n) ((s.leadOf c).map s.engineAt) (s.engineAt n))
    ∧ (∀ m : Fin 4, m ≠ n → (s.stageTrim n c).engineAt m = s.engineAt m))
  ∧ (∀ (s : State) (n : Fin 4) (e : EngineEntry) (interval cEff : Nat),
    let c := ix4 e.channel
    let lever := max (-1000) (min 1000 s.station.inUse.levers[c.val])
    let centred := lever.natAbs ≤ s.deadBand c
    let own := s.engineAt n
    let wanted : Option Direction :=
      if centred ∨ s.curves? c = none ∨ own.isRunning = false ∨ own.gearFault = true then none
      else if 0 < lever then some .ahead else some .astern
    let cleared := { own with gearFault := own.gearFault && !decide centred }
    let moved := cleared.gearStep s.now wanted
    let full := match moved.gear with
      | .ahead => e.maxAhead
      | .astern => e.maxAstern
      | _ => e.idle
    let thrust := min (match s.curves? c, wanted with
      | some k, some .ahead => curveAt lever.natAbs k.ahead
      | some k, some .astern => curveAt lever.natAbs k.astern
      | _, _ => 0) cEff
    let target := e.idle + (full - e.idle) * thrust / 1000
    let ceiling := e.idle + (full - e.idle) * cEff / 1000
    let ramped :=
      if own.setpoint < 16 * target then
        min (own.setpoint + max 1 (e.rampUp * interval * 16 / 1000)) (16 * target)
      else if 16 * target < own.setpoint then
        max (own.setpoint - max 1 (e.rampDown * interval * 16 / 1000)) (16 * target)
      else own.setpoint
    let r := s.demand n e interval cEff
    let led : State :=
      if own.gearFault = true ∧ centred then
        ((s.modEngine n fun g => { g with gearFault := false }).setSource (11 + n.val) false).reLeadOf n
      else s
    let u := led.modEngine n fun g =>
      { moved with setpoint := min ramped (16 * ceiling), member := g.member, trim := g.trim }
    r.2 = (u.stageTrim n c).modEngine n fun g => { g with lastCommand := some r.1 })
  ∧ ∀ (s : State) (n : Fin 4) (e : EngineEntry) (interval cEff : Nat),
    let r := s.demand n e interval cEff
    let g := r.2.engineAt n
    let full := match g.gear with
      | .ahead => e.maxAhead
      | .astern => e.maxAstern
      | _ => e.idle
    let ceiling := e.idle + (full - e.idle) * cEff / 1000
    (r.1.rpm : Int) = max (e.idle : Int) (min (ceiling : Int) (((g.setpoint : Int) + g.trim + 8) / 16))
    ∧ r.1.gear = (match g.gear with
      | .ahead => 1
      | .astern => 2
      | _ => 0)
    ∧ (g.gear = .neutral ∨ g.gear = .shifting → r.1.rpm = e.idle ∧ g.setpoint ≤ 16 * e.idle)
    ∧ g.setpoint ≤ 16 * ceiling
    ∧ (16 * e.idle ≤ (s.engineAt n).setpoint → 16 * e.idle ≤ g.setpoint)
    ∧ g.setpoint ≤ (s.engineAt n).setpoint + max 1 (e.rampUp * interval * 16 / 1000)
    ∧ g.lastCommand = some r.1
    ∧ (∀ m : Fin 4, m ≠ n → (s.engineAt m).sameButTrim (r.2.engineAt m))
    ∧ r.2.prop.sync = s.prop.sync ∧ s.condsBut r.2 [11 + n.val, 19]
    ∧ s.sameBut r.2 [.prop, .cond]
    ∧ ∀ slot : SlotEntry, slotKindOf slot.kind = .exchange →
        let d := s.demand n e interval (min s.coup.cTow (min (s.cFeed n) (s.cReact n)))
        s.fireEngine slot interval n e =
          { d.2 with sent := { d.2.sent with
              machinery := { dst := slot.node, src := 0xFE, kind := 0x11
                             payload := beBytes 2 d.1.rpm ++ [byte d.1.gear] } :: d.2.sent.machinery } }

/-- The engine timers: the dwell timer's expiry makes the disengage phase COMPLETE (R34); the confirm timer's puts
the engine in gear fault and NEUTRAL, with GEAR FAULT n active, the failed direction last engaged and the phase back
at RPM WAIT (R36), and the lead of its channel is re-evaluated (R46). A timer that does not run expires without
effect. -/
def Obligations.EngineTimersExpire : Prop :=
  ∀ (e : Env) (s : State) (n : Fin 4),
    ((s.engineAt n).dwell = none → exec (.dwellTimerExpiry e (n.val + 1)) s = .next (s.enter e))
    ∧ (∀ d : Moment, (s.engineAt n).dwell = some d →
        exec (.dwellTimerExpiry e (n.val + 1)) s =
          .next (((s.enter e).reach d).modEngine n fun g => { g with phase := .complete, dwell := none }))
    ∧ ((s.engineAt n).confirm = none → exec (.confirmTimerExpiry e (n.val + 1)) s = .next (s.enter e))
    ∧ ∀ d : Moment, (s.engineAt n).confirm = some d →
      let failed : Engine :=
        { s.engineAt n with
          gearFault := true, gear := .neutral, shiftTarget := none, phase := .rpmWait, dwell := none
          confirm := none, unconfirmed := false
          lastDir := match (s.engineAt n).gear with
            | .ahead => some .ahead
            | .astern => some .astern
            | _ => (s.engineAt n).lastDir }
      ∃ t : State, exec (.confirmTimerExpiry e (n.val + 1)) s = .next t
        ∧ t.now = max (max s.now e.time) d
        ∧ t = ((((s.enter e).withNow t.now).modEngine n fun _ => failed).setSource (11 + n.val) true).reLeadOf n
        ∧ failed.sameButTrim (t.engineAt n)
        ∧ (∀ m : Fin 4, m ≠ n → (s.engineAt m).sameButTrim (t.engineAt m))
        ∧ t.prop.sync = s.prop.sync ∧ t.sourceOf (11 + n.val) = true
        ∧ s.condsBut t [11 + n.val, 19] ∧ s.sameBut t [.now, .readBack, .prop, .cond]

/-! ## Steering (chapter 3) -/

/-- The computation of a MAIN or FLANKING actuator (R55, R56, R57, R61): its target is the source value times the gain,
truncated and within ±limit, or 0 for a FLANKING actuator whose interlock engine is not ASTERN; its commanded angle
moves toward the target by one step and not past it, or stands at the frozen angle of a fault that holds it; the
EXCHANGE slot sends the commanded angle. The BOW computation (R54, R58, R59): it first finds whether the unit is usable,
by the bow node's presence, its cut and the split mode, and BOW UNAVAILABLE follows, as every other evaluation of it
does (`evalBow`); a unit found usable again starts from its reported angle; a usable one moves toward its target over
the time since its last computation, the poll interval at the first, and an unusable one is centred at once. That a part
of a millisecond of that time is dropped is the model's choice (notes/assumptions/21.md), and so is that the poll
interval is the loaded general table's at once (notes/assumptions/22.md). -/
def Obligations.RuddersMoveTowardTheirTarget : Prop :=
  (∀ (s : State) (a : SteerEntry), s.actuator? bowIx = some a →
    let usable := s.bowReady a
    let r := s.actuatorAt bowIx
    let ready := if r.usable then r else
      { r with
        lastComputation := none
        commanded := match r.reported with
          | none => 0
          | some angle => max (-(a.limit : Int)) (min (a.limit : Int) angle) }
    let interval := match ready.lastComputation with
      | none => s.pollInterval
      | some at_ => (s.now - at_) / 100
    let v := if a.flankSource then s.station.inUse.flanking else s.station.inUse.steering
    let target : Int := max (-(a.limit : Int)) (min (a.limit : Int) (Int.tdiv (v * a.gain) 1000))
    let step : Int := max 1 (a.rate * interval / 1000 : Nat)
    let moved : Int :=
      if ready.commanded < target then min (ready.commanded + step) target
      else if target < ready.commanded then max (ready.commanded - step) target
      else ready.commanded
    let t := s.bowCompute
    let x := t.actuatorAt bowIx
    (usable → x.usable = true ∧ x.target = target ∧ x.lastComputation = some s.now
        ∧ x.commanded = (if r.fault ∧ a.freeze then r.frozen.getD moved else moved)
        ∧ x.frozen = r.frozen ∧ t.sourceOf 27 = false
        ∧ x.standing = if r.reported = none then .suspended else .active)
    ∧ (¬ usable → x.usable = false ∧ x.target = 0 ∧ x.commanded = 0 ∧ x.frozen = none
        ∧ x.lastComputation = some s.now ∧ x.standing = .suspended ∧ x.outStart = none ∧ x.inStart = none
        ∧ t.sourceOf 27 = true)
    ∧ x.reported = r.reported ∧ x.fault = r.fault
    ∧ (∀ j : Fin 7, j ≠ bowIx → t.actuatorAt j = s.actuatorAt j)
    ∧ s.condsBut t [27] ∧ s.sameBut t [.steer, .cond])
  ∧ (∀ s : State, s.bowEvaluated s.evalBow ∧ s.condsBut s.evalBow [27] ∧ s.sameBut s.evalBow [.steer, .cond])
  ∧ (∀ s : State, s.actuator? bowIx = none →
    (s.bowCompute.actuatorAt bowIx).usable = false ∧ s.bowCompute.sourceOf 27 = false
      ∧ (s.bowCompute.actuatorAt bowIx).commanded = (s.actuatorAt bowIx).commanded
      ∧ s.condsBut s.bowCompute [27] ∧ s.sameBut s.bowCompute [.steer, .cond])
  ∧ ∀ (s : State) (i : Fin 7) (a : SteerEntry) (interval : Nat), i ≠ bowIx →
    let r := s.actuatorAt i
    let t := s.rudderCompute i a interval
    let v := if a.flankSource then s.station.inUse.flanking else s.station.inUse.steering
    let astern := s.publishedGear (ix4 a.interlock) = .astern
    let centred := isFlanking i = true ∧ ¬ astern
    let target : Int :=
      if centred then 0 else max (-(a.limit : Int)) (min (a.limit : Int) (Int.tdiv (v * a.gain) 1000))
    let step : Int := max 1 (a.rate * interval / 1000 : Nat)
    let moved : Int :=
      if r.commanded < target then min (r.commanded + step) target
      else if target < r.commanded then max (r.commanded - step) target
      else r.commanded
    t.actuatorAt i =
      { r with
        target := target
        lastComputation := some s.now
        commanded := if r.fault ∧ a.freeze ∧ ¬ centred then r.frozen.getD moved else moved
        frozen := if r.fault ∧ a.freeze ∧ centred then none else r.frozen }
    ∧ (∀ j : Fin 7, j ≠ i → t.actuatorAt j = s.actuatorAt j)
    ∧ s.sameBut t [.steer]
    ∧ ∀ slot : SlotEntry, slotKindOf slot.kind = .exchange →
        s.fireActuator slot interval i a =
          { t with sent := { s.sent with
              machinery := { dst := slot.node, src := 0xFE, kind := 0x12
                             payload := beInt 2 (t.actuatorAt i).commanded } :: s.sent.machinery } }

/-- A reported angle (R53, R60, R62): it is stored within ±450; while the check stands ACTIVE, the record enters
FAULT at an out-of-tolerance observation that comes at least the follow time after the first of its run, and
leaves it at a within-tolerance one at least 2 s after the first of its run; FOLLOW FAULT of the actuator is
active exactly with the fault. That the angle compared is the record's commanded angle, sent or not, is the model's
choice (notes/assumptions/10.md). -/
def Obligations.FollowFaultNeedsASustainedDeviation : Prop :=
  ∀ (s : State) (i : Fin 7) (a : SteerEntry) (angle : Int),
    let r := s.actuatorAt i
    let t := s.actuatorReport i a angle
    let stored := max (-450) (min 450 angle)
    let x := t.actuatorAt i
    let active := if i = bowIx then r.usable = true else r.nodeLost = false
    let out := a.tolerance < (stored - r.commanded).natAbs
    x.reported = some stored ∧ x.commanded = r.commanded ∧ x.target = r.target ∧ x.usable = r.usable
    ∧ (¬ active → x.fault = r.fault ∧ x.standing = .suspended ∧ x.outStart = none ∧ x.inStart = none)
    ∧ (active → x.standing = .active
        ∧ (r.fault = false → out → x.outStart = some (r.outStart.getD s.now)
            ∧ (x.fault = true ↔ r.outStart.getD s.now + ms (100 * a.followTime) ≤ s.now)
            ∧ (x.fault = true → x.frozen =
                if a.freeze then some (max (-(a.limit : Int)) (min (a.limit : Int) stored)) else none))
        ∧ (r.fault = false → ¬ out → x.outStart = none ∧ x.fault = false)
        ∧ (r.fault = true → out → x.fault = true ∧ x.inStart = none ∧ x.frozen = r.frozen)
        ∧ (r.fault = true → ¬ out →
            (x.fault = false ↔ r.inStart.getD s.now + sec 2 ≤ s.now)
            ∧ (x.fault = true → x.inStart = some (r.inStart.getD s.now) ∧ x.frozen = r.frozen)
            ∧ (x.fault = false → x.outStart = none ∧ x.frozen = none)))
    ∧ t.sourceOf (20 + i.val) = x.fault
    ∧ (∀ j : Fin 7, j ≠ i → t.actuatorAt j = s.actuatorAt j)
    ∧ s.condsBut t [20 + i.val] ∧ s.sameBut t [.steer, .cond]

/-! ## The machinery line (chapter 4) -/

/-- CYCLE_BOUNDARY (R66, R67, R71, R72), taken while a cycle runs and its last window has closed, and otherwise without
effect: the boundary falls at its due moment or at the step's own if that is later; the cycle count advances by one
modulo 65 536; the mark of that count leaves; the first due slot that fires opens its window, makes its computation and
sends its frame (R73); and the next boundary is due P later. A pending slot table is put in use there, with its own P
and the count running on: the records of the nodes it no longer names, or names with another content, are UNKNOWN with
their counts 0, the losses of those that were PRESENT go to their old owners, MACHINERY NODE LOST follows, and the
boundary's mark is the new table's first (R71, R77, R78). The first slot opens behind the mark, 90 µs after the
boundary. That the losses are handed in address order is the model's choice (notes/assumptions/22.md), and so is that a
record keeps its report age and that a dropped node's rudder stays SUSPENDED (notes/assumptions/10.md). That the mark
and the first slot come in one step, with the clock left at the boundary, is the model's choice
(notes/assumptions/11.md). -/
def Obligations.CycleBoundaryBeginsTheNextCycle : Prop :=
  ∀ (e : Env) (s : State),
    (s.mach.running = false ∨ s.mach.window.isSome = true → exec (.cycleBoundary e) s = .next (s.enter e))
    ∧ (s.mach.running = true → s.mach.window = none →
        let m := max (max s.now e.time) s.mach.nextBoundary
        let count := (s.mach.cycleCount + 1) % 65536
        let at_ : State := { s.enter e with now := m }
        (∀ b : Bytes, s.mach.pendingTable = none → s.tableImage 4 = some b →
          ∃ t : State, exec (.cycleBoundary e) s = .next t
            ∧ at_.cycleBegins t b count ∧ t.mach.pendingTable = none
            ∧ s.condsBut t [11, 12, 13, 14, 19] ∧ at_.sameBut t [.prop, .steer, .mach, .cond, .sent])
        ∧ (∀ b : Bytes, s.mach.pendingTable = some b →
            let taken := at_.slotTableTaken b
            ∃ t : State, exec (.cycleBoundary e) s = .next t
              ∧ taken.cycleBegins t b count ∧ t.tableImage 4 = some b ∧ t.mach.pendingTable = none
              ∧ (∀ id : Fin 13, id ≠ 4 → t.slot id = s.slot id)
              ∧ (∀ i : Fin 30, t.machNodeAt i =
                  if contentOf b (i.val + 1) ≠ none ∧ contentOf b (i.val + 1) = s.contentKind (i.val + 1) then
                    s.machNodeAt i
                  else { lastGood := (s.machNodeAt i).lastGood })
              ∧ (t.sourceOf 28 = true ↔
                  ∃ i : Fin 30, contentOf b (i.val + 1) ≠ none ∧ (t.machNodeAt i).state = .lost)
              ∧ taken.condsBut t [11, 12, 13, 14, 19]
              ∧ taken.sameBut t [.prop, .steer, .mach, .cond, .sent]))

/-- MACHINERY_WINDOW_CLOSE (R66, R74, R76): at its close, an EXCHANGE or CALL slot that took no good report has missed,
and its node's record counts the miss, PRESENT becoming LOST at the third in a row; the next slot that fires opens at
the close, makes the computation of its engine or actuator, and sends its frame: the report call, the engine's most
recent command, the commanded angle as it stands, or the pump order (R73, R150), from the state in which the miss and
the loss have been handed over; a cycle whose last window closes after the next boundary is due delays that boundary and
counts one overrun. With no window open it has no effect.

The owner of the node's content is handed the miss and then the loss (R78): the engine whose node it is has its fresh
flag cleared (R27) and at the loss stands LOST with REPORT LOST active (R28) and the lead of its channel re-evaluated
(R46), before the computation of an engine's EXCHANGE slot that opens next; a rudder's check standing becomes SUSPENDED
at the loss (R63); MACHINERY NODE LOST follows (R77); a meter node's consumers grow their gaps and at the loss get
invalid baselines (R130); a gauge node's tanks become LOST at the loss with their levels held (R140); and the pump's
miss and loss are those of the statement on run timers (R151, R157). That the check standing follows a node whatever
content its slots give it is read from R63 (notes/assumptions/10.md). -/
def Obligations.WindowCloseRecordsTheMiss : Prop :=
  ∀ (e : Env) (s : State),
    (s.mach.window = none → exec (.machineryWindowClose e) s = .next (s.enter e))
    ∧ ∀ (w : MachWindow) (b : Bytes), s.mach.window = some w → s.tableImage 4 = some b →
      ∃ t : State, exec (.machineryWindowClose e) s = .next t
        ∧ t.now = max (max s.now e.time) w.closeAt
        ∧ t.mach.cycleCount = s.mach.cycleCount ∧ t.mach.running = s.mach.running
        ∧ t.mach.pendingTable = s.mach.pendingTable
        ∧ (∀ i : Fin 30,
            if w.node = i.val + 1 ∧ w.kind ≠ .command ∧ w.taken = false then
              t.machNodeAt i = { s.machNodeAt i with
                good := 0
                misses := min 3 ((s.machNodeAt i).misses + 1)
                total := min 65535 ((s.machNodeAt i).total + 1)
                state := if (s.machNodeAt i).state = .present ∧ 2 ≤ (s.machNodeAt i).misses then .lost
                  else (s.machNodeAt i).state }
            else t.machNodeAt i = s.machNodeAt i)
        ∧ (let missed := w.kind ≠ .command ∧ w.taken = false
           let lost := missed ∧ ∃ i : Fin 30, w.node = i.val + 1 ∧ (s.machNodeAt i).state = .present
             ∧ 2 ≤ (s.machNodeAt i).misses
           let closed : State := { s.enter e with now := t.now, mach := { s.mach with window := none } }
           let stale := if missed then closed.missHanded w.node w.content else closed
           let counted : State := { stale with mach := { stale.mach with nodes := t.mach.nodes } }
           let gone := (counted.lossHanded w.node w.content).rudderHeld w.node
           let handed := if lost then
               gone.setSource 28 ((List.finRange 30).any fun i =>
                 (s.contentKind (i.val + 1)).isSome && decide ((gone.machNodeAt i).state = .lost))
             else counted
           ∃ x : State, handed.servesNext x b s.mach.slotsLeft
             ∧ t = if x.mach.window = none ∧ x.mach.nextBoundary < x.now then
                 { x with
                   mach := { x.mach with nextBoundary := x.now }
                   lines := { x.lines with machOverruns := min 65535 (x.lines.machOverruns + 1) } }
               else x)
        ∧ (if t.mach.window = none ∧ s.mach.nextBoundary < t.now then
            t.mach.nextBoundary = t.now
              ∧ t.lines = { s.lines with machOverruns := min 65535 (s.lines.machOverruns + 1) }
           else t.mach.nextBoundary = s.mach.nextBoundary ∧ t.lines = s.lines)
        ∧ s.sameBut t [.now, .readBack, .prop, .steer, .mach, .fuel, .transfer, .cond, .store, .lines, .sent]
        ∧ (w.kind = .command ∨ w.taken = true →
            t.fuel = s.fuel ∧ t.transfer = s.transfer ∧ t.store = s.store)
        ∧ (let missed := w.kind ≠ .command ∧ w.taken = false
           let lost := missed ∧ ∃ i : Fin 30, w.node = i.val + 1 ∧ (s.machNodeAt i).state = .present
             ∧ 2 ≤ (s.machNodeAt i).misses
           let handed : State := { s.enter e with now := t.now, mach := { s.mach with nodes := t.mach.nodes } }
           (∀ n : Fin 4,
              let hit := missed ∧ w.content ≤ 3 ∧ ∃ en : EngineEntry, s.engine? n = some en ∧ en.node = w.node
              let g := s.engineAt n
              let h := t.engineAt n
              h.fresh = (if hit then false else g.fresh) ∧ h.standing = (if hit ∧ lost then .lost else g.standing)
              ∧ h.rpm = g.rpm ∧ h.confirmedGear = g.confirmedGear ∧ h.flags = g.flags ∧ h.ageFrom = g.ageFrom
              ∧ t.sourceOf (7 + n.val) = (if hit ∧ lost then true else s.sourceOf (7 + n.val)))
           ∧ ((∀ x : MachWindow, t.mach.window = some x → x.kind ≠ .exchange ∨ 3 < x.content) →
              let on (f : State → Fin 4 → State) (v : State) : State :=
                (List.finRange 4).foldl (fun v n =>
                  match v.engine? n with
                  | none => v
                  | some en => if en.node = w.node then f v n else v) v
              let stale := on (fun v n => v.modEngine n fun g => { g with fresh := false }) handed
              let gone := on (fun v n =>
                ((v.modEngine n fun g => { g with standing := .lost }).setSource (7 + n.val) true).reLeadOf n) stale
              let left := if missed ∧ w.content ≤ 3 then (if lost then gone else stale) else s
              t.prop = left.prop ∧ t.sourceOf 19 = left.sourceOf 19)
           ∧ (∀ i : Fin 7,
              let hit := lost ∧ i ≠ bowIx ∧ ∃ a : SteerEntry, s.actuator? i = some a ∧ a.node = w.node
              let a := s.actuatorAt i
              let x := t.actuatorAt i
              x.reported = a.reported ∧ x.fault = a.fault
              ∧ (hit → x.nodeLost = true ∧ x.standing = .suspended ∧ x.outStart = none ∧ x.inStart = none)
              ∧ (¬ hit → x.nodeLost = a.nodeLost ∧ x.standing = a.standing ∧ x.outStart = a.outStart
                  ∧ x.inStart = a.inStart))
           ∧ (lost → (t.sourceOf 28 = true ↔
              ∃ i : Fin 30, s.contentKind (i.val + 1) ≠ none ∧ (t.machNodeAt i).state = .lost))
           ∧ (¬ lost → t.sourceOf 28 = s.sourceOf 28)
           ∧ (∀ i : Fin 6,
              let hit := missed ∧ w.content = 10 ∧ ∃ c : ConsumerEntry, s.consumer? i = some c ∧ c.node = w.node
              let c := s.consumerAt i
              (hit → t.consumerAt i =
                { c with gap := min 255 (c.gap + 1), baseValid := if lost then false else c.baseValid })
              ∧ (¬ hit → t.consumerAt i = c))
           ∧ (∀ i : Fin 12,
              let hit := lost ∧ w.content = 11 ∧ ∃ x : TankEntry, s.tank? i = some x ∧ x.gaugeNode = w.node
                ∧ x.gaugeNode ≠ 0
              (hit → t.tankRec i = { s.tankRec i with standing := .lost, runStart := none })
              ∧ (¬ hit → t.tankRec i = s.tankRec i))
           ∧ t.fuel.saveDue = s.fuel.saveDue
           ∧ (let pump := if missed ∧ w.content = 12 then
                  (if lost then handed.pumpMiss.pumpLost else handed.pumpMiss) else s
              t.transfer = pump.transfer ∧ t.store = pump.store ∧ t.sourceOf 42 = pump.sourceOf 42))
        ∧ s.condsBut t [7, 8, 9, 10, 11, 12, 13, 14, 19, 28, 42]

/-- A good report (R27, R53, R74, R76, R78): the first frame in an open EXCHANGE or CALL window from the slot's node
with the slot's report kind. The window stays open with its report taken; the node's record counts it, PRESENT at
the second in a row; and the report reaches the owner of its content. An engine's reaches the engine whose node
reported, whatever engine the slot names, and acts on its gear machine: NO REPORT becomes CURRENT (R27), LOST does
when the node returns to PRESENT (R28); LOCAL stops the confirm timer and its clearing starts it afresh (R29); a
report of the gear commanded confirms it (R35); and one near idle ends the rpm wait (R34). The lead of its channel is
re-evaluated at the report and at the return (R46, R48). A rudder's reaches the present actuator whose node reported,
whatever actuator the slot names (R53): its angle is stored within ±450 with the follow observation of
`actuatorReport`, and the check standing is ACTIVE again at the return (R63). MACHINERY NODE LOST follows a return
(R77). A meter's entries act consumer by consumer by `meterEntry`, a gauge's tank by tank by `gaugeTank` and, at a
CURRENT reading, by `examineRule`, and a pump's by `pumpReport`, on which other statements say the rest. A gauge
reading while its node is held LOST leaves the tank LOST, and the return makes CURRENT a tank whose stored entry was a
level (R140).

The model's choices in it: a field that the report is too short to carry is free (notes/assumptions/19.md); nothing is
evaluated at a gauge's return, only the report of an engine's or an actuator's slot carries an engine's values or an
angle, the confirmed gear is kept as the byte received, and LOCAL acts on the confirm timer before the confirmation
(notes/assumptions/10.md). -/
def Obligations.GoodReportsReachTheirRecords : Prop :=
  ∀ (e : Env) (s : State) (w : MachWindow) (payload : Bytes),
    let m := max s.now e.time
    s.mach.window = some w → w.kind ≠ .command → w.taken = false → w.openAt ≤ m → m ≤ w.closeAt →
    entriesAgree (reportKindOf w.content) payload = true → answersNewest s.sent.machinery e.answers →
    ∃ (t : State) (p : Bytes),
      exec (.machineryReport e 0xFE w.node (reportKindOf w.content) payload) s = .next t
      ∧ payload <+: p ∧ (reportFields w.content ≤ payload.length → p = payload)
      ∧ t.now = m
      ∧ t.mach = { s.mach with window := some { w with taken := true }, nodes := t.mach.nodes }
      ∧ (∀ i : Fin 30,
          if w.node = i.val + 1 then
            t.machNodeAt i = { s.machNodeAt i with
              misses := 0
              good := min 2 ((s.machNodeAt i).good + 1)
              lastGood := some m
              state := if 1 ≤ (s.machNodeAt i).good then .present else (s.machNodeAt i).state }
          else t.machNodeAt i = s.machNodeAt i)
      ∧ (let returns := ∃ i : Fin 30, w.node = i.val + 1 ∧ (s.machNodeAt i).state ≠ .present
           ∧ 1 ≤ (s.machNodeAt i).good
         let handed : State := { s.enter e with mach := { s.mach with window := some { w with taken := true } } }
         let isLocal := bitOf (byteAt p 3) 2
         let took (en : EngineEntry) (g : Engine) : Engine :=
           let confirm := if isLocal then none
             else if g.flags.any (·.local_) ∧ g.unconfirmed ∧ (g.gear = .ahead ∨ g.gear = .astern) then
               some (m + sec 4)
             else g.confirm
           let confirmed := confirm ≠ none ∧ byteAt p 2 = (match g.gear with
             | .ahead => 1
             | .astern => 2
             | _ => 0)
           let slowed := g.phase = .rpmWait ∧ u16 p 0 ≤ en.idle + 20
           { g with
             rpm := some (u16 p 0)
             confirmedGear := some (byteAt p 2)
             flags := some
               { running := bitOf (byteAt p 3) 0, alarm := bitOf (byteAt p 3) 1, local_ := isLocal }
             fresh := true
             ageFrom := m
             standing := if g.standing = .noReport then .current else g.standing
             confirm := if confirmed then none else confirm
             unconfirmed := if confirmed then false else g.unconfirmed
             phase := if slowed then .dwell else g.phase
             dwell := if slowed then some (m + ms (100 * (if en.dwell = 0 then 20 else en.dwell))) else g.dwell }
         (w.content ≤ 3 →
           let on (f : State → Fin 4 → EngineEntry → State) (v : State) : State :=
             (List.finRange 4).foldl (fun v n =>
               match v.engine? n with
               | none => v
               | some en => if en.node = w.node then f v n en else v) v
           let heard := on (fun v n en =>
             ((v.modEngine n (took en)).setSource (15 + n.val) isLocal).reLeadOf n) handed
           let back := on (fun v n _ =>
             ((v.modEngine n fun g => { g with standing := .current }).setSource (7 + n.val) false).reLeadOf n) heard
           let after := if returns then back else heard
           t.prop = after.prop ∧ t.sourceOf 19 = after.sourceOf 19
           ∧ ∀ n : Fin 4,
             let hit := ∃ en : EngineEntry, s.engine? n = some en ∧ en.node = w.node
             (¬ hit → (s.engineAt n).sameButTrim (t.engineAt n) ∧ t.sourceOf (15 + n.val) = s.sourceOf (15 + n.val)
               ∧ t.sourceOf (7 + n.val) = s.sourceOf (7 + n.val))
             ∧ ∀ en : EngineEntry, s.engine? n = some en → en.node = w.node →
               let g := took en (s.engineAt n)
               ({ g with standing := if returns then .current else g.standing } : Engine).sameButTrim (t.engineAt n)
               ∧ t.sourceOf (15 + n.val) = isLocal
               ∧ t.sourceOf (7 + n.val) = (if returns then false else s.sourceOf (7 + n.val)))
         ∧ (4 ≤ w.content → w.content ≤ 9 →
             ∀ i : Fin 7,
               let hit := i ≠ bowIx ∧ ∃ a : SteerEntry, s.actuator? i = some a ∧ a.node = w.node
               (¬ hit → t.actuatorAt i = s.actuatorAt i ∧ t.sourceOf (20 + i.val) = s.sourceOf (20 + i.val))
               ∧ ∀ a : SteerEntry, i ≠ bowIx → s.actuator? i = some a → a.node = w.node →
                 let x := handed.actuatorReport i a (s16 p 0)
                 (t.actuatorAt i).reported = some (max (-450) (min 450 (s16 p 0)))
                 ∧ t.sourceOf (20 + i.val) = x.sourceOf (20 + i.val)
                 ∧ t.actuatorAt i = (if returns then { x.actuatorAt i with nodeLost := false, standing := .active }
                     else x.actuatorAt i))
         ∧ (w.content < 4 ∨ 9 < w.content →
             ∀ i : Fin 7,
               let hit := returns ∧ i ≠ bowIx ∧ ∃ a : SteerEntry, s.actuator? i = some a ∧ a.node = w.node
               let a := s.actuatorAt i
               (¬ hit → t.actuatorAt i = a)
               ∧ (hit → t.actuatorAt i =
                   if a.reported = none then
                     { a with nodeLost := false, standing := .suspended, outStart := none, inStart := none }
                   else { a with nodeLost := false, standing := .active }))
         ∧ (returns → (t.sourceOf 28 = true ↔
             ∃ i : Fin 30, s.contentKind (i.val + 1) ≠ none ∧ (t.machNodeAt i).state = .lost))
         ∧ (¬ returns → t.sourceOf 28 = s.sourceOf 28))
      ∧ (w.content = 10 → ∀ (i : Fin 6) (c : ConsumerEntry), s.consumer? i = some c → c.node = w.node →
          (1 ≤ c.entry → c.entry ≤ byteAt p 0 →
            let x := t.consumerAt i
            x.baseValid = true ∧ x.baseSupply = u16 p (6 * c.entry - 5) ∧ x.baseReturn = u16 p (6 * c.entry - 3)
              ∧ x.gap = 0 ∧ x.tempCode = some (u16 p (6 * c.entry - 1)))
          ∧ (byteAt p 0 < c.entry → t.consumerAt i =
              { s.consumerAt i with gap := min 255 ((s.consumerAt i).gap + 1) }))
      ∧ (w.content = 11 → s.machStateOf w.node ≠ .lost → ∀ (i : Fin 12) (c : TankEntry), s.tank? i = some c →
          c.gaugeNode = w.node → c.gaugeNode ≠ 0 → 1 ≤ c.gaugeEntry → c.gaugeEntry ≤ byteAt p 0 →
          u24 p (3 * c.gaugeEntry - 2) ≠ 0xFFFFFF →
          (t.tankRec i).standing = .current
            ∧ (t.tankRec i).level = some (min (u24 p (3 * c.gaugeEntry - 2)) c.capacity)
            ∧ (t.tankRec i).levelAt = some m)
      ∧ (let u : State := { s.enter e with mach := { s.mach with window := some { w with taken := true } }
                                           draws := t.draws }
         (w.content = 10 →
            let metered := (List.finRange 6).foldl (fun (v : State) (i : Fin 6) =>
              match v.consumer? i with
              | none => v
              | some c =>
                if c.node = w.node then
                  (if 1 ≤ c.entry ∧ c.entry ≤ byteAt p 0 then
                    v.meterEntry i c
                      { supply := u16 p (6 * c.entry - 5), ret := u16 p (6 * c.entry - 3)
                        temp := u16 p (6 * c.entry - 1) }
                   else v.modConsumer i fun x => { x with gap := min 255 (x.gap + 1) })
                else v) u
            t.fuel = metered.fuel ∧ t.sourceOf 41 = metered.sourceOf 41 ∧ t.transfer = s.transfer ∧ t.store = s.store
            ∧ s.condsBut t [28, 41])
          ∧ (w.content = 11 →
              let lost := decide (s.machStateOf w.node = .lost)
              let returns := ∃ i : Fin 30, w.node = i.val + 1 ∧ (s.machNodeAt i).state ≠ .present
                ∧ 1 ≤ (s.machNodeAt i).good
              let read := (List.finRange 12).foldl (fun (v : State) (i : Fin 12) =>
                match v.tank? i with
                | none => v
                | some c =>
                  if c.gaugeNode = w.node ∧ c.gaugeNode ≠ 0 then
                    let y := v.gaugeTank i c lost (if 1 ≤ c.gaugeEntry ∧ c.gaugeEntry ≤ byteAt p 0 then
                      some (u24 p (3 * c.gaugeEntry - 2)) else none)
                    match (y.tankRec i).standing, (y.tankRec i).level with
                    | .current, some level =>
                      (List.finRange 4).foldl (fun z k => z.examineRule (i.val + 1) c level k) y
                    | _, _ => y
                  else v) u
              (∀ i : Fin 12,
                let x := read.tankRec i
                t.tankRec i =
                  if returns ∧ (∃ c : TankEntry, s.tank? i = some c ∧ c.gaugeNode = w.node ∧ c.gaugeNode ≠ 0)
                    ∧ x.standing = .lost ∧ x.lastWasLevel = true then { x with standing := .current } else x)
              ∧ t.fuel = { read.fuel with tanks := t.fuel.tanks }
              ∧ t.transfer = read.transfer ∧ t.store = read.store
              ∧ (∀ code ∈ [38, 39, 40], t.sourceOf code = read.sourceOf code) ∧ s.condsBut t [28, 38, 39, 40])
          ∧ (w.content = 12 →
              let q := u.pumpReport
                { running := bitOf (byteAt p 0) 0, fault := bitOf (byteAt p 0) 1, count := u16 p 1
                  temp := u16 p 3 }
              t.fuel = q.fuel ∧ t.transfer = q.transfer ∧ t.store = q.store ∧ t.sourceOf 42 = q.sourceOf 42
              ∧ s.condsBut t [28, 42]))
      ∧ (w.content = 12 → t.transfer.pump.baseline = some (u16 p 1) ∧ t.transfer.pump.gap = 0)
      ∧ (w.content < 10 → t.fuel = s.fuel ∧ t.transfer = s.transfer ∧ t.store = s.store)
      ∧ (w.content ≤ 3 → s.condsBut t [7, 8, 9, 10, 15, 16, 17, 18, 19, 28])
      ∧ (4 ≤ w.content → w.content ≤ 9 → s.condsBut t [20, 21, 22, 23, 24, 25, 28])
      ∧ (4 ≤ w.content → t.prop = s.prop)
      ∧ s.sameBut t [.now, .readBack, .prop, .steer, .mach, .fuel, .transfer, .cond, .store, .draws]

/-- Frames that nobody takes only add one to a counter. On the machinery line (R75, R81, R191, R192) a report outside an
open window is late; inside one, a report from another node or of another kind is of a wrong source, whatever frame it
answers; one that fits a window which has taken its report is stray; one that fits a window which has taken none but
answers an earlier frame of the part, whose window has closed, is late; and another kind of frame is discarded. On the
tow line (R84, R87, R97, R100, R192) a reply or answer to an earlier frame of the part, whose window has ended or whose
transaction is over, is late; inside a poll's window a reply from another node is of a wrong source and one that does
not agree with its entry malformed, and an ACCESS ANSWER is the one or the other; after a poll ended by its reply, and
before the part's next frame, a second reply in its window is stray; outside every window, and during a node
transaction, a reply is late, and an ACCESS ANSWER there is late, of a wrong source or malformed as its transaction
finds it. A frame to another address is ignored. The model's choices in it: that a frame names the frame of the part
that it answers, and that a second reply of the node which does not agree with its entry is malformed
(notes/assumptions/20.md); that a poll reply whose length disagrees with its own fields is malformed, and that another
kind of frame inside an open window is discarded (notes/assumptions/19.md); and that an ACCESS ANSWER outside any
transaction and every poll's window is late (notes/assumptions/10.md). -/
def Obligations.FramesOutOfPlaceAreOnlyCounted : Prop :=
  ∀ (e : Env) (s : State) (dst src kind : Nat) (payload : Bytes),
    let u := s.enter e
    let one (n : Nat) : Nat := min 65535 (n + 1)
    let report := exec (.machineryReport e dst src kind payload) s
    let reply := exec (.pollReply e dst src payload) s
    let answer := exec (.accessAnswer e dst src payload) s
    let late := Host.Outcome.next { u with lines := { s.lines with towLate := one s.lines.towLate } }
    let wrong := Host.Outcome.next
      { u with lines := { s.lines with towWrongSource := one s.lines.towWrongSource } }
    let malformed := Host.Outcome.next
      { u with lines := { s.lines with towMalformed := one s.lines.towMalformed } }
    let stray := Host.Outcome.next { u with lines := { s.lines with towStray := one s.lines.towStray } }
    (dst ≠ 0xFE → report = .next u ∧ reply = .next u ∧ answer = .next u)
    ∧ (dst = 0xFE →
        (¬ (0x18 ≤ kind ∧ kind ≤ 0x1C) → report = .next { u with lines := { s.lines with
          machinery := { s.lines.machinery with discarded := one s.lines.machinery.discarded } } })
        ∧ (0x18 ≤ kind → kind ≤ 0x1C →
            let late := Host.Outcome.next { u with lines := { s.lines with machLate := one s.lines.machLate } }
            (u.reportWindow = none → report = late)
            ∧ ∀ w : MachWindow, u.reportWindow = some w →
              (src ≠ w.node ∨ kind ≠ reportKindOf w.content ∨ entriesAgree kind payload = false →
                report = .next { u with lines := { s.lines with
                  machWrongSource := one s.lines.machWrongSource } })
              ∧ (src = w.node → kind = reportKindOf w.content → entriesAgree kind payload = true →
                  (w.taken = true →
                    report = .next { u with lines := { s.lines with machStray := one s.lines.machStray } })
                  ∧ (w.taken = false → ¬ answersNewest s.sent.machinery e.answers → report = late)))
        ∧ (¬ answersNewest s.sent.tow e.answers → reply = late ∧ answer = late)
        ∧ (answersNewest s.sent.tow e.answers → u.openPoll = none →
            (u.spentPoll = none → reply = late)
            ∧ ∀ (i : Nat) (m : MakeUpEntry), u.spentPoll = some (i, m) →
              (src ≠ m.address → reply = wrong)
              ∧ (src = m.address → replyFits payload m.channels m.bow = false → reply = malformed)
              ∧ (src = m.address → replyFits payload m.channels m.bow = true → reply = stray))
        ∧ (answersNewest s.sent.tow e.answers → ∀ (i : Nat) (m : MakeUpEntry), u.openPoll = some (i, m) →
            (src ≠ m.address → reply = wrong ∧ answer = wrong)
            ∧ (src = m.address → replyFits payload m.channels m.bow = false → reply = malformed)
            ∧ (src = m.address → answer = malformed))
        ∧ (answersNewest s.sent.tow e.answers → u.openPoll = none →
            (s.accessInFlight = none → u.spentPoll = none → answer = late)
            ∧ ∀ (a : NodeAccess) (d : Moment), s.accessInFlight = some (a, d) →
              (d < u.now → answer = late)
              ∧ (u.now ≤ d → src ≠ a.address → answer = wrong)
              ∧ (u.now ≤ d → src = a.address → answerFits a payload = false → answer = malformed)))

/-- LINE_CHECK_FAILURE and DISCARDED_FRAME (R2, R191, R192). A run of bytes between two idle gaps that fails a check
adds one to that check's counter of its line: framing where a stop bit fails, a gap is too long or the line goes idle
before the frame is complete; length where the length byte exceeds 28, whatever follows it; CRC where the CRC carried is
not the CRC of the bytes before it. Bytes after a whole frame's CRC count as one further framing error. That the length
byte is looked at as soon as it is in is the model's choice (notes/assumptions/16.md). A helm frame of a fitted station
whose length is not 15 is discarded and counted; a frame that passes the checks but is of no kind its line takes, or
comes from no fitted station, adds one to the line's discarded counter when it is addressed to the part, helm frames and
management frames of such a source among them; that it is so inside an open window too is the model's choice
(notes/assumptions/19.md). Nothing else changes, and a frame to another address changes nothing. -/
def Obligations.DiscardsCountOnTheirLine : Prop :=
  (∀ run : List RxByte,
    let bytes := run.map (·.value)
    let n := byteAt bytes 3
    let sound (i : Nat) : Prop := ∃ b : RxByte, run[i]? = some b ∧ b.stop = true ∧ (i = 0 ∨ b.gap = false)
    ((∃ i : Nat, i < 4 ∧ ¬ sound i) → lineCheck run = some .framing)
    ∧ ((∀ i : Nat, i < 4 → sound i) →
        (28 < n → lineCheck run = some .length ∧ bytesFollow run = false)
        ∧ (n ≤ 28 →
            ((∃ i : Nat, i < n + 6 ∧ ¬ sound i) → lineCheck run = some .framing ∧ bytesFollow run = false)
            ∧ ((∀ i : Nat, i < n + 6 → sound i) →
                (lineCheck run = if crc16 (bytes.take (4 + n)) = u16 bytes (4 + n) then none else some .crc)
                ∧ (bytesFollow run = true ↔ n + 6 < run.length)))))
  ∧ ∀ (e : Env) (s : State) (run : List RxByte) (dst src kind : Nat) (payload : Bytes),
    let u := s.enter e
    let l := s.lines
    let one (n : Nat) : Nat := min 65535 (n + 1)
    let failed (c : BasicCounters) : BasicCounters :=
      let d := match lineCheck run with
        | none => c
        | some .framing => { c with framing := one c.framing }
        | some .length => { c with length := one c.length }
        | some .crc => { c with crc := one c.crc }
      if bytesFollow run then { d with framing := one d.framing } else d
    exec (.lineCheckFailure e .station run) s = .next { u with lines := { l with station := failed l.station } }
    ∧ exec (.lineCheckFailure e .machinery run) s =
        .next { u with lines := { l with machinery := failed l.machinery } }
    ∧ exec (.lineCheckFailure e .tow run) s = .next { u with lines := { l with tow := failed l.tow } }
    ∧ (dst = s.ownAddress → s.fittedStation src ≠ none → payload.length ≠ 15 →
        exec (.helmFrame e dst src payload) s = .next { u with lines := { l with
          station := { l.station with discarded := one l.station.discarded } } })
    ∧ (dst = s.ownAddress → (kind ≠ 0x01 ∧ kind ≠ 0x02) ∨ s.fittedStation src = none →
        exec (.discardedFrame e .station dst src kind) s = .next { u with lines := { l with
          station := { l.station with discarded := one l.station.discarded } } })
    ∧ (dst = 0xFE → ¬ (0x18 ≤ kind ∧ kind ≤ 0x1C) →
        exec (.discardedFrame e .machinery dst src kind) s = .next { u with lines := { l with
          machinery := { l.machinery with discarded := one l.machinery.discarded } } })
    ∧ (dst = 0xFE → kind ≠ 0x21 → kind ≠ 0x23 →
        exec (.discardedFrame e .tow dst src kind) s = .next { u with lines := { l with
          tow := { l.tow with discarded := one l.tow.discarded } } })
    ∧ (dst = s.ownAddress → s.fittedStation src = none →
        let counted := { u with lines := { l with
          station := { l.station with discarded := one l.station.discarded } } }
        exec (.helmFrame e dst src payload) s = .next counted
          ∧ exec (.managementFrame e dst src payload) s = .next counted)
    ∧ (dst ≠ s.ownAddress → exec (.discardedFrame e .station dst src kind) s = .next u
        ∧ exec (.helmFrame e dst src payload) s = .next u
        ∧ exec (.managementFrame e dst src payload) s = .next u)
    ∧ (dst ≠ 0xFE → exec (.discardedFrame e .machinery dst src kind) s = .next u
        ∧ exec (.discardedFrame e .tow dst src kind) s = .next u)

/-! ## The tow line (chapter 5) -/

/-- POLL_CYCLE_START (R85, R86), taken while the controller waits between two cycles with no transaction in flight, and
otherwise without effect: the cycle starts at its due moment, or at the step's own if that is later, with a poll to the
first entry whose frame leaves, after the BOW computation where that entry is the bow node's (R59), and whose reply
window is open for 4 ms; with no entries the cycle completes at once, the start limit ends and the ceiling rises by at
most one recovery step (R116). The next start is a poll interval after this one; that it is computed at the cycle's
completion is the model's choice (notes/assumptions/22.md).

The out-bits that a poll carries (R93, R94): bit k is the signal that the polled node's profile binds to it, inverted
where the binding says so, as its owner shows it at that moment; every bit is 0 while table 12 is INVALID. -/
def Obligations.PollCycleStartsAtItsDueMoment : Prop :=
  (∀ (e : Env) (s : State),
    let waits := s.towLine.running = true ∧ s.towLine.complete = true ∧ s.towLine.window = none
      ∧ s.towLine.access = none
    let m := max (max s.now e.time) s.towLine.nextDue
    (¬ waits → exec (.pollCycleStart e) s = .next (s.enter e))
    ∧ (waits → ∀ (first : MakeUpEntry) (rest : List MakeUpEntry), s.pollList = first :: rest →
        ∃ t : State, exec (.pollCycleStart e) s = .next t ∧ t.now = m
          ∧ t.towLine = { s.towLine with
              cycleStart := m, complete := false, pos := 1, restartPending := false, spent := none
              window := some { entry := 0, closeAt := m + ms 4 } }
          ∧ t.sent = { s.sent with tow := t.pollFrame 0 first :: s.sent.tow }
          ∧ State.cycleStarts { s.enter e with now := m } t
          ∧ s.condsBut t [27] ∧ s.sameBut t [.now, .readBack, .steer, .towLine, .cond, .sent])
    ∧ (waits → s.pollList = [] →
        ∃ t : State, exec (.pollCycleStart e) s = .next t ∧ t.now = m
          ∧ t.towLine = { s.towLine with
              cycleStart := m, complete := true, pos := 0, restartPending := false, spent := none
              nextDue := m + ms s.pollInterval }
          ∧ t.coup = { s.coup with
              startLimit := false, cTow := min t.cCap (s.coup.cTow + s.towLimits.recovery) }
          ∧ s.sameBut t [.now, .readBack, .towLine, .coup]))
  ∧ ∀ (s : State) (i : Nat) (m : MakeUpEntry),
    let ownRecord (c : Coupling) : Prop := ∃ (j : Nat) (x : CouplingEntry), s.coup.records[j]? = some c
      ∧ s.couplingEntries[j]? = some x ∧ x.nodeIndex = i + 1
    let signal (k : Nat) : Prop := match k with
      | 0 => False
      | 1 => True
      | 2 => s.station.holder ≠ none
      | 3 => s.coup.mode ≠ .normal
      | 4 => s.coup.mode = .rejoining
      | 5 => ∃ n : Fin 4, s.engine? n ≠ none ∧ (s.engineAt n).gear = .astern
      | 6 => s.transfer.state ≠ .idle
      | 7 => ∃ c ∈ s.coup.records, c.state = .overload
      | 8 => ∃ c ∈ s.coup.records, c.state = .parted
      | 9 => ∃ j : Fin 45, s.cond.alarm[j.val] = .activeUnacked ∨ s.cond.alarm[j.val] = .clearedUnacked
      | 10 => s.station.inUse.aux[0] = true
      | 11 => s.station.inUse.aux[1] = true
      | 12 => s.station.inUse.aux[2] = true
      | 13 => s.station.inUse.aux[3] = true
      | 14 => s.coup.cTow < 1000
      | 15 => (∃ c : Coupling, ownRecord c) ∧ ∀ c : Coupling, ownRecord c → c.state = .made
      | 16 => m.cutB = true
      | k => s.sourceOf (k + 12) = true
    (s.tableImage 11 = none → s.outBits i m = 0)
    ∧ ∀ (b : Bytes) (k : Nat), s.tableImage 11 = some b → k < 8 →
      let binding := byteAt b (32 + 16 * (m.profile - 1) + k)
      (bitOf (s.outBits i m).toNat k = true ↔ (signal (binding % 32) ↔ bitOf binding 7 = false))

/-- POLL_WINDOW_CLOSE (R85, R86, R88): the node polled has missed; its record counts the miss, and the third in a row
makes it SILENT from any state. The line then goes on from there: a node transaction that waits begins, its NODE ACCESS
frame leaving; the next poll, or a new cycle's first, leaves with its frame, after the BOW computation where it is the
bow node's (R59, R94, R97); or the line waits. With no window open it has no effect.

A change to SILENT is handed over (R90): to the coupling supervisor, whose part `couplingNodeChange` another statement
gives (R110), to the steering unit for the bow node (R58, R63), and to the condition unit, with TOW NODE SILENT, TOW
NODE FAULT and TOW INPUT A and B following (R91, R95). That the last entry's poll hands over the cycle end also where a
poll restart is pending is the model's choice (notes/assumptions/10.md), and so is that the next cycle's start is
computed at a cycle's completion (notes/assumptions/22.md). -/
def Obligations.PollWindowCloseRecordsTheMiss : Prop :=
  ∀ (e : Env) (s : State),
    (s.towLine.window = none → exec (.pollWindowClose e) s = .next (s.enter e))
    ∧ ∀ w : PollWindow, s.towLine.window = some w → s.towLine.complete = false → s.pollList ≠ [] →
      ∃ t : State, exec (.pollWindowClose e) s = .next t
        ∧ t.now = max (max s.now e.time) w.closeAt
        ∧ t.towLine.nodes = s.towLine.nodes.modify w.entry (fun n =>
            { n with
              good := 0
              missed := min 3 (n.missed + 1)
              total := min 65535 (n.total + 1)
              state := if 2 ≤ n.missed then .silent else n.state })
        ∧ (let turned := ∃ n : TowNode, s.towLine.nodes[w.entry]? = some n ∧ 2 ≤ n.missed ∧ n.state ≠ .silent
           let missed : State := { s.enter e with now := t.now, towLine := { s.towLine with nodes := t.towLine.nodes } }
           let handed := if turned then missed.couplingNodeChange w.entry .silent 0 else missed
           let steered := if s.isBowNode w.entry then handed.evalBow else handed
           (if turned then steered.evalTowNodes else handed).afterPoll t none
           ∧ t.coup = (if s.pollList.length ≤ s.towLine.pos then handed.cycleEnd else handed).coup
           ∧ t.store = handed.store
           ∧ (∀ code ∈ [31, 32, 33, 34, 35], t.sourceOf code = handed.sourceOf code)
           ∧ (turned → t.towConditions)
           ∧ (¬ turned → s.condsBut t [27])
           ∧ (turned → t.isBowNode w.entry = true →
               (t.actuatorAt bowIx).usable = false ∧ (t.actuatorAt bowIx).standing = .suspended
                 ∧ t.sourceOf 27 = true)
           ∧ (t.actuatorAt bowIx).reported = (s.actuatorAt bowIx).reported
           ∧ (t.actuatorAt bowIx).fault = (s.actuatorAt bowIx).fault
           ∧ (∀ i : Fin 7, i ≠ bowIx → t.actuatorAt i = s.actuatorAt i)
           ∧ s.condsBut t [27, 29, 30, 31, 32, 33, 34, 35, 36, 37])
        ∧ s.sameBut t [.now, .readBack, .steer, .towLine, .coup, .cond, .store, .sent]

/-- A good poll reply (R87, R88): from the polled node, agreeing with its entry, before the window closes. The reply is
stored and counted; a masked condition code makes the node FAULT and an unmasked one PRESENT, at once from PRESENT and
FAULT and at the third good reply in a row from ABSENT and SILENT. The poll has ended and the line goes on, with the
frame of a node transaction that waits or of the next poll, the bow node's after its BOW computation (R59, R94, R97);
where the line then waits, the window stays open for stray replies.

The hand-overs (R90): the coupling supervisor is given the change of node state with the condition code, and then, where
the state after the reply is PRESENT, the tension of each channel in channel order, with `couplingNodeChange` and
`couplingReading`, whose parts another statement gives (R110, R105); the steering unit is given the bow node's angle
before the change of state (R53, R59), with the observation of `actuatorReport`; and TOW NODE SILENT, TOW NODE FAULT and
TOW INPUT A and B stand as the nodes and their last replies say (R91, R95). That the last entry's poll hands over the
cycle end also where a poll restart is pending is the model's choice (notes/assumptions/10.md); so are that the next
cycle's start is computed at a cycle's completion (notes/assumptions/22.md) and that the window of an answered poll
stays on record until the part's next frame (notes/assumptions/20.md). -/
def Obligations.GoodRepliesReachTheNodeRecord : Prop :=
  ∀ (e : Env) (s : State) (w : PollWindow) (m : MakeUpEntry) (payload : Bytes),
    answersNewest s.sent.tow e.answers → s.towLine.window = some w → s.towLine.complete = false →
    max s.now e.time ≤ w.closeAt →
    s.pollList[w.entry]? = some m → replyFits payload m.channels m.bow = true →
    ∃ t : State, exec (.pollReply e 0xFE m.address payload) s = .next t ∧ t.now = max s.now e.time
      ∧ t.towLine.nodes = s.towLine.nodes.modify w.entry (fun n =>
          { n with
            reply := some
              { codes := (payload.drop 3).take m.channels, condition := byteAt payload 0
                inBits := payload.getD 1 0
                bow := if m.bow then some (s16 payload (3 + m.channels)) else none }
            good := min 3 (n.good + 1)
            missed := 0
            lastGood := some t.now
            state := if n.state = .present ∨ n.state = .fault ∨ 2 ≤ n.good then
                (if s.masked (byteAt payload 0) then .fault else .present)
              else n.state })
      ∧ (t.towLine.complete = true → t.towLine.access = none → t.towLine.window = none → t.towLine.spent = some w)
      ∧ (let before := s.towNodeState w.entry
         let after := t.towNodeState w.entry
         let code := byteAt payload 0
         let angle := s16 payload (3 + m.channels)
         let replied : State := { s.enter e with towLine := { s.towLine with nodes := t.towLine.nodes } }
         let hand (v : State) : State :=
           let changed := if before = after then v else v.couplingNodeChange w.entry after code
           if after = .present then
             (((payload.drop 3).take m.channels).zipIdx).foldl (fun (v : State) (p : Byte × Nat) =>
               v.couplingReading w.entry p.2 (decodeTension p.1.toNat)) changed
           else changed
         let read := hand replied
         let angled := match s.actuator? bowIx with
           | none => replied
           | some a => if s.isBowNode w.entry then replied.actuatorReport bowIx a angle else replied
         let steered := if before ≠ after ∧ s.isBowNode w.entry = true then (hand angled).evalBow else hand angled
         steered.evalTowNodes.afterPoll t (some w)
         ∧ t.coup = (if s.pollList.length ≤ s.towLine.pos then read.cycleEnd else read).coup
         ∧ t.store = read.store
         ∧ (∀ code ∈ [31, 32, 33, 34, 35], t.sourceOf code = read.sourceOf code)
         ∧ t.towConditions
         ∧ (s.isBowNode w.entry = false →
             (t.actuatorAt bowIx).reported = (s.actuatorAt bowIx).reported
               ∧ (t.actuatorAt bowIx).fault = (s.actuatorAt bowIx).fault ∧ t.sourceOf 26 = s.sourceOf 26)
         ∧ (∀ a : SteerEntry, s.actuator? bowIx = some a → s.isBowNode w.entry = true →
             let heard := replied.actuatorReport bowIx a angle
             let x := t.actuatorAt bowIx
             let polled := ∃ v : PollWindow, t.towLine.window = some v ∧ t.towLine.complete = false
               ∧ v.entry = w.entry
             x.reported = some (max (-450) (min 450 angle)) ∧ x.fault = (heard.actuatorAt bowIx).fault
             ∧ t.sourceOf 26 = x.fault
             ∧ (before ≠ after → x.usable = t.bowUsable ∧ t.sourceOf 27 = !t.bowUsable
                 ∧ x.standing = if t.bowUsable then .active else .suspended)
             ∧ (before ≠ after → (s.actuatorAt bowIx).usable = false → t.bowUsable = true → ¬ polled →
                 x.commanded = max (-(a.limit : Int)) (min (a.limit : Int) (max (-450) (min 450 angle)))
                   ∧ x.lastComputation = none)
             ∧ (before = after → t.coup.mode = s.coup.mode → ¬ polled → x = heard.actuatorAt bowIx))
         ∧ (∀ i : Fin 7, i ≠ bowIx → t.actuatorAt i = s.actuatorAt i)
         ∧ s.condsBut t [26, 27, 29, 30, 31, 32, 33, 34, 35, 36, 37])
      ∧ s.sameBut t [.now, .readBack, .steer, .towLine, .coup, .cond, .store, .sent]

/-- A node transaction ends (R97) by its node's answer within the time limit, OK with the data read or STATE for a
refusal, or by the end of its 200 ms, TIMEOUT; the reply waits for the station line, the hold is released and polling
goes on: the next poll, or the first of a restarted or due cycle, leaves with its frame, the bow node's after its BOW
computation (R59, R94, R98). With no transaction in flight the time limit does not run. -/
def Obligations.NodeTransactionsEndOneWay : Prop :=
  ∀ (e : Env) (s : State) (a : NodeAccess) (d : Moment) (r : MgmtRequest) (rest : List MgmtRequest),
    (s.accessInFlight = none → exec (.nodeAccessTimeout e) s = .next (s.enter e))
    ∧ (s.towLine.access = some { a with deadline := some d } → s.towLine.window = none →
        s.store.queue = r :: rest → s.pollList ≠ [] →
        (s.towLine.complete = false → s.towLine.pos < s.pollList.length) →
        let ends (t : State) (status : Status) (data : Bytes) : Prop :=
          t.tx = { s.tx with replies := s.tx.replies ++ [r.reply status data true] }
            ∧ t.store = { s.store with head := .answered .nothing }
            ∧ t.towLine.nodes = s.towLine.nodes
            ∧ State.pollingGoesOn
                { s.enter e with
                  now := t.now, tx := t.tx, store := t.store, towLine := { s.towLine with access := none } } t
            ∧ s.sameBut t [.now, .readBack, .steer, .towLine, .cond, .store, .tx, .sent]
        (answersNewest s.sent.tow e.answers → max s.now e.time ≤ d →
          (∀ data : Bytes, a.write = true ∨ data.length = a.length →
            ∃ t : State, exec (.accessAnswer e 0xFE a.address (0 :: data)) s = .next t
              ∧ t.now = max s.now e.time ∧ ends t .ok (if a.write then [] else data))
          ∧ (∀ data : Bytes,
            ∃ t : State, exec (.accessAnswer e 0xFE a.address (1 :: data)) s = .next t
              ∧ t.now = max s.now e.time ∧ ends t .state []))
        ∧ ∃ t : State, exec (.nodeAccessTimeout e) s = .next t
            ∧ t.now = max (max s.now e.time) d ∧ ends t .timeout [])

/-- The decoding of a tension code (R92): 0x00 is no tension, 0xFF a sensor fault, and every other code a tension
by its exponent and mantissa, from 3 up to 8000. -/
def Obligations.TensionCodesDecode : Prop :=
  decodeTension 0 = .tension 0 ∧ decodeTension 0xFF = .sensorFault
    ∧ ∀ e m : Nat, e ≤ 7 → m ≤ 31 →
      (e = 0 → 1 ≤ m → decodeTension (32 * e + m) = .tension (2 * m + 1))
      ∧ (1 ≤ e → 32 * e + m ≠ 0xFF →
          decodeTension (32 * e + m) = .tension ((64 + 2 * m + 1) * 2 ^ (e - 1))
            ∧ 65 ≤ (64 + 2 * m + 1) * 2 ^ (e - 1) ∧ (64 + 2 * m + 1) * 2 ^ (e - 1) ≤ 8000)

/-! ## Couplings and the tow ceiling (chapter 6) -/

/-- A reading taken by a coupling record (R105 to R109): an OPENED record takes none; a tension moves the runs, then
the state by the record's state before it, and becomes the last tension; a second sensor fault in a row makes the
record UNKNOWN. A reading reaches the record of its node and channel and no other.

A change of a node's state (R110): SILENT and FAULT make every record of the node that is not OPENED UNKNOWN with
that cause, its runs and sensor-fault count 0, and PRESENT changes none. After either, the ceiling falls at once to
the capped value (R115); and where a record's state, or a node's, has changed, conditions 31 to 34 follow (R111,
R112) and the tests of R120 and R122 are made, which may lead split mode on to SPLIT or NORMAL. -/
def Obligations.ReadingsMoveTheCouplingRecord : Prop :=
  (∀ (e : CouplingEntry) (c : Coupling) (r : Reading), c.state = .opened → c.take e r = c)
    ∧ (∀ (e : CouplingEntry) (c : Coupling) (t : Nat), c.state ≠ .opened →
        let taut := if e.slack ≤ t then min 3 (c.taut + 1) else 0
        let slack := if e.slack ≤ t then 0 else min 2 (c.slack + 1)
        let dropped := (∃ p : Nat, c.last = some p ∧ 500 * e.rated ≤ p * 1000) ∧ t < e.slack
        let d := c.take e (.tension t)
        d.taut = taut ∧ d.slack = slack ∧ d.sensor = 0 ∧ d.last = some t ∧ d.cause = none
          ∧ (c.state = .unknown → d.state = .unmade)
          ∧ (c.state = .unmade → d.state = if taut = 3 then .made else .unmade)
          ∧ (c.state = .made →
              (e.rated ≤ t → d.state = .overload)
              ∧ (t < e.rated → dropped → d.state = .parted)
              ∧ (t < e.rated → ¬ dropped → d.state = if slack = 2 then .slack else .made))
          ∧ (c.state = .overload →
              (dropped → d.state = .parted)
              ∧ (¬ dropped → d.state = if t * 1000 < 900 * e.rated then .made else .overload))
          ∧ (c.state = .slack →
              (e.rated ≤ t → d.state = .overload)
              ∧ (t < e.rated → d.state = if taut = 3 then .made else .slack))
          ∧ (c.state = .parted → d.state = if taut = 3 then .made else .parted))
    ∧ (∀ (e : CouplingEntry) (c : Coupling), c.state ≠ .opened →
        c.take e .sensorFault =
          if c.sensor = 0 ∨ c.state = .unknown then { c with sensor := min 2 (c.sensor + 1) }
          else { c with state := .unknown, cause := some .sensorFault, taut := 0, slack := 0, sensor := 2 })
    ∧ (∀ (s : State) (node ch i : Nat) (e : CouplingEntry) (r : Reading),
        (s.couplingAt node ch = none → s.couplingReading node ch r = s)
        ∧ (s.couplingAt node ch = some (i, e) →
            let t := s.couplingReading node ch r
            let changed := (t.coup.records[i]?).map (·.state) ≠ (s.coup.records[i]?).map (·.state)
            t.coup.records = s.coup.records.modify i (Coupling.take e r)
            ∧ (changed → s.couplingsFollowed t
                (if s.coup.mode = .rejoining ∧ s.cutBAll .present = true ∧ t.splitsMade = true then .normal
                 else s.coup.mode))
            ∧ (¬ changed → t = { s with coup := { s.coup with
                records := t.coup.records, cTow := min s.coup.cTow t.cCap } })))
    ∧ (∀ (s : State) (node : Nat) (x : TowNodeState) (code : Nat),
        let t := s.couplingNodeChange node x code
        (∀ i : Nat, t.coup.records[i]? = (s.coup.records[i]?).map fun c =>
            let lost (cause : UnknownCause) : Coupling :=
              if (s.couplingEntries[i]?).any (fun e => e.nodeIndex = node + 1) ∧ c.state ≠ .opened then
                { c with state := .unknown, cause := some cause, taut := 0, slack := 0, sensor := 0 }
              else c
            match x with
            | .silent => lost .nodeSilent
            | .fault => lost (.nodeFault code)
            | _ => c)
        ∧ s.couplingsFollowed t
            (if s.coup.mode = .splitting ∧ s.cutBAll .silent = true then .split
             else if s.coup.mode = .rejoining ∧ s.cutBAll .present = true ∧ t.splitsMade = true then .normal
             else s.coup.mode))

/-- The tow ceiling at a cycle end (R113, R114, R116): the tension value falls in a straight line from 1000 at the
knee to f at the limit by the largest ratio among the MADE, SLACK and OVERLOAD couplings; the capped value takes
the limits that apply; the start limit ends; and the ceiling rises to the capped value by at most one recovery
step, or falls to it. -/
def Obligations.TowCeilingFollowsTensionAndLimits : Prop :=
  ∀ s : State,
    let t := s.cycleEnd
    let l := s.towLimits
    let contributes (i top : Nat) : Prop :=
      ∃ (c : Coupling) (e : CouplingEntry) (last : Nat), s.coup.records[i]? = some c
        ∧ s.couplingEntries[i]? = some e ∧ (c.state = .made ∨ c.state = .slack ∨ c.state = .overload)
        ∧ c.last = some last ∧ top = last * 1000 / e.rated
    t.coup.startLimit = false ∧ t.coup.records = s.coup.records ∧ t.coup.mode = s.coup.mode
    ∧ (∀ c : Nat,
        ((∀ i top : Nat, ¬ contributes i top) → c = 1000) →
        (∀ i top : Nat, contributes i top → (∀ j other : Nat, contributes j other → other ≤ top) →
          (top ≤ l.k → c = 1000) ∧ (l.k < top → l.u ≤ top → c = l.f)
          ∧ (l.k < top → top < l.u → c = 1000 - (1000 - l.f) * (top - l.k) / (l.u - l.k))) →
        let floored := if ∃ r ∈ s.coup.records, r.state = .parted then min c l.f else c
        t.cCap = if s.coup.mode = .normal then floored else min floored l.splitCap)
    ∧ t.coup.cTow = (if s.coup.cTow < t.cCap then min t.cCap (s.coup.cTow + l.recovery) else t.cCap)
    ∧ s.sameBut t [.coup]

/-- REJOIN_TIMER_EXPIRY makes REJOIN OVERDUE active and changes no split mode (R122), and ACCOUNT_SAVE_TIMER
writes every account and book to the retained store every 60 s (R144, R187), or counts a write failure and
keeps the last whole copy and owes the item; an item owed to the retained store is written again at the save
(R187). SCRUB_CHECK (R186, R188) takes the slots in id order, each 4.6 s after the one before:
a VALID table whose region does not read back sound gets its fault flag set and raises TABLE FAULT, while its
image stays in use; a sound one, and an INVALID slot's turn, change no flag. -/
def Obligations.RejoinSaveAndScrubTimersExpire : Prop :=
  ∀ (e : Env) (s : State) (found : ScrubRead),
    (s.coup.rejoinStart = none → exec (.rejoinTimerExpiry e) s = .next (s.enter e))
    ∧ (∀ start : Moment, s.coup.rejoinStart = some start →
        ∃ t : State, exec (.rejoinTimerExpiry e) s = .next t
          ∧ t.now = max (max s.now e.time) (start + sec s.towLimits.rejoin)
          ∧ t.coup = { s.coup with rejoinStart := none } ∧ t.sourceOf 35 = true
          ∧ s.condsBut t [35] ∧ s.sameBut t [.now, .readBack, .coup, .cond])
    ∧ (∃ t : State, exec (.accountSaveTimer e) s = .next t
        ∧ t.now = max (max s.now e.time) s.fuel.saveDue
        ∧ t.fuel = { s.fuel with saveDue := s.fuel.saveDue + sec 60 }
        ∧ t.store = s.savedStore s e
        ∧ (Region.fuel ∉ e.readBack.failed → t.store.retained.fuel = some
            { accounts := s.fuel.consumers.map (·.account), books := s.fuel.tanks.map (·.book) })
        ∧ (Region.fuel ∈ e.readBack.failed →
            t.store.retained.fuel = s.store.retained.fuel ∧ StoreItem.fuel ∈ t.store.owed)
        ∧ (∀ i : StoreItem, e.readBack.failed = [] → i ∉ t.store.owed)
        ∧ s.sameBut t [.now, .readBack, .fuel, .store])
    ∧ ∃ t : State, exec (.scrubCheck e found) s = .next t
        ∧ (let id := s.store.scrubNext
           let copy := s.store.retained.tables[id.val]
           let sound := found.uncorrectable = false
             ∧ ∃ c : RetainedTable, copy = some c ∧ c.damaged = false ∧ crc16 c.image = c.crc
           let turned := { s.store with scrubNext := id + 1, scrubLast := t.now }
           t.now = max (max s.now e.time) (s.store.scrubLast + ms 4600)
           ∧ ((s.slot id).valid = false → t.store = turned ∧ t.cond = s.cond)
           ∧ ((s.slot id).valid = true → sound →
               t.store = { turned with corrected := min 65535 (s.store.corrected + found.corrected) }
                 ∧ t.cond = s.cond)
           ∧ ((s.slot id).valid = true → ¬ sound →
               t.store = { turned with
                   corrected := min 65535 (s.store.corrected + found.corrected)
                   slots := s.store.slots.set id.val { s.slot id with fault := true } }
                 ∧ t.sourceOf 44 = true ∧ s.condsBut t [44])
           ∧ s.sameBut t [.now, .readBack, .cond, .store])

/-! ## Fuel (chapter 7) -/

/-- An accumulation (R134, R136): the increment is the floor of the quotient and the remainder stays within 0 to
1000k − 1, so that total × 1000k + remainder grows by exactly n × F; the same increment is consumed from the
consumer's feed tank when that tank is present, and nothing else is touched. A transfer increment (R136, R151):
the run's moved grows by it, its trailer too in TRAILER, and the same signed amount is added to the
destination's in and to the source's out. -/
def Obligations.IncrementsAreBookedWhole : Prop :=
  (∀ (s : State) (i : Fin 6) (e : ConsumerEntry) (n f : Int), 0 < e.k →
      (∀ j : Fin 12, (s.tankRec j).book.balanced) →
      let c := s.consumerAt i
      let k : Int := 1000 * e.k
      let inc := (c.account.remainder + n * f) / k
      let t := s.charge i e n f
      let a := (t.consumerAt i).account
      a.total = c.account.total + inc
      ∧ 0 ≤ a.remainder ∧ a.remainder < k
      ∧ a.total * k + a.remainder = c.account.total * k + c.account.remainder + n * f
      ∧ t.consumerAt i = { c with account := { c.account with total := a.total, remainder := a.remainder } }
      ∧ (∀ j : Fin 6, j ≠ i → t.consumerAt j = s.consumerAt j)
      ∧ (∀ j : Fin 12, t.tankRec j =
          if s.feedTankOf i = j.val + 1 ∧ (s.tank? j).isSome = true then
            { s.tankRec j with book :=
              { (s.tankRec j).book with
                consumption := (s.tankRec j).book.consumption + inc, book := (s.tankRec j).book.book - inc } }
          else s.tankRec j)
      ∧ t.fuel.saveDue = s.fuel.saveDue ∧ s.sameBut t [.fuel])
    ∧ (∀ (s : State) (r : Run) (i j : Fin 12) (inc : Int), s.transfer.run = some r → i ≠ j →
      r.source = i.val + 1 → r.dest = j.val + 1 → (s.tank? i).isSome = true → (s.tank? j).isSome = true →
      (∀ x : Fin 12, (s.tankRec x).book.balanced) →
      let t := s.bookIncrement inc
      t.transfer = { s.transfer with run := some { r with
          moved := r.moved + inc
          trailer := if s.transfer.state = .trailer then r.trailer + inc else r.trailer } }
      ∧ (∀ x : Fin 12, t.tankRec x =
          let b := (s.tankRec x).book
          if x = i then { s.tankRec x with book := { b with moveOut := b.moveOut + inc, book := b.book - inc } }
          else if x = j then { s.tankRec x with book := { b with moveIn := b.moveIn + inc, book := b.book + inc } }
          else s.tankRec x)
      ∧ t.fuel.consumers = s.fuel.consumers ∧ s.sameBut t [.fuel, .transfer])

/-- A meter report's entry (R131, R132, R133): whatever it finds, its counts become the baselines, the gap count 0
and a valid temperature the last one. A delta accepted against a valid baseline is accumulated, held as the
estimate, and clears the meter fault; a rejected one, and a first entry after a loss, is closed by the held
estimate, grows the unmetered count and sets the meter fault; a first entry with no estimate only sets the
baselines. METER FAULT then stands exactly while a present consumer has its meter fault set (R135). -/
def Obligations.MeterEntriesAreMeasuredOrEstimated : Prop :=
  ∀ (s : State) (i : Fin 6) (e : ConsumerEntry) (m : MeterEntry),
    let c := s.consumerAt i
    let g := c.gap
    let ds := (m.supply + 65536 - c.baseSupply) % 65536
    let dr := (m.ret + 65536 - c.baseReturn) % 65536
    let accepted := g + 1 < 16 ∧ ds ≤ e.glitch * (g + 1) ∧ dr ≤ e.glitch * (g + 1)
    let valid := m.temp ≠ 0x8000
    let degrees : Int := if valid then max (-200) (min 1200 (signed16 m.temp)) else c.account.lastTemp.getD 150
    let factor : Int := 1000000 - e.alpha * (degrees - 150)
    let t := s.meterEntry i e m
    let d := t.consumerAt i
    let estimated (h : HeldEstimate) : Prop :=
      d.account.total = ((s.charge i e ((g + 1 : Nat) * h.net) h.factor).consumerAt i).account.total
        ∧ d.account.remainder = ((s.charge i e ((g + 1 : Nat) * h.net) h.factor).consumerAt i).account.remainder
        ∧ d.account.unmetered = min 65535 (c.account.unmetered + g + 1) ∧ d.held = some h
        ∧ d.meterFault = true
        ∧ t.fuel.tanks = (s.charge i e ((g + 1 : Nat) * h.net) h.factor).fuel.tanks
    let kept : Prop :=
      d.account.total = c.account.total ∧ d.account.remainder = c.account.remainder
        ∧ t.fuel.tanks = s.fuel.tanks
    d.baseValid = true ∧ d.baseSupply = m.supply ∧ d.baseReturn = m.ret ∧ d.gap = 0 ∧ d.tempCode = some m.temp
    ∧ d.account.lastTemp = (if valid then some degrees else c.account.lastTemp)
    ∧ d.account.valid = c.account.valid
    ∧ (c.baseValid = true → accepted →
        d.account.total = ((s.charge i e ((ds : Int) - dr) factor).consumerAt i).account.total
          ∧ d.account.remainder = ((s.charge i e ((ds : Int) - dr) factor).consumerAt i).account.remainder
          ∧ t.fuel.tanks = (s.charge i e ((ds : Int) - dr) factor).fuel.tanks
          ∧ d.account.unmetered = c.account.unmetered ∧ d.meterFault = false
          ∧ d.held = some { net := Int.tdiv ((ds : Int) - dr) ((g + 1 : Nat) : Int), factor := factor })
    ∧ (c.baseValid = true → ¬ accepted →
        (∀ h : HeldEstimate, c.held = some h → estimated h)
        ∧ (c.held = none → kept ∧ d.account.unmetered = min 65535 (c.account.unmetered + g + 1)
            ∧ d.held = none ∧ d.meterFault = true))
    ∧ (c.baseValid = false →
        (∀ h : HeldEstimate, c.held = some h → estimated h)
        ∧ (c.held = none → kept ∧ d.account.unmetered = c.account.unmetered ∧ d.held = none
            ∧ d.meterFault = c.meterFault))
    ∧ (∀ j : Fin 6, j ≠ i → t.consumerAt j = s.consumerAt j)
    ∧ t.meterFaultFollows ∧ s.condsBut t [41] ∧ s.sameBut t [.fuel, .cond]

/-- A gauge entry (R140, R141, R143). While its node is not LOST, the level is clamped to the capacity and stored
with the standing CURRENT; each below flag is set at or below its mark, cleared at or above its mark plus the band
and kept between; a deviation beyond the tolerance starts the discrepancy run and becomes a discrepancy after 30 s,
and a reading within it ends both; a failed entry leaves the level held and the standing LOST. FEED LOW, FEED
LOW-LOW and FUEL DISCREPANCY follow a CURRENT reading (R142, R143). An entry taken while its node is LOST only
stores the level, or that there was none: the standing is LOST, and nothing is evaluated (R140). That a flag is set
where a band of 0 lets a level meet both of R141's conditions is the model's choice (notes/assumptions/22.md).

The feed ceiling of an engine (R142): 0 while its feed tank is EMPTY, the feed derate of the general table in LOWLOW
(500 without that table), and 1000 in LOW and NORMAL, without a present feed tank, and for an engine that is not
present. -/
def Obligations.GaugeEntriesSetTheTank : Prop :=
  (∀ (s : State) (i : Fin 12) (e : TankEntry) (v : Nat),
    let t := s.tankRec i
    let level := min v e.capacity
    let flag (mark : Nat) (was : Bool) : Bool :=
      if level ≤ mark then true else if mark + e.band ≤ level then false else was
    let off := e.tolerance * 1000 < ((level : Int) * 1000 - t.book.book).natAbs
    let u := s.gaugeTank i e false (some v)
    let start := t.runStart.getD s.now
    (v ≠ 0xFFFFFF →
      u.tankRec i = { t with
        standing := .current, level := some level, levelAt := some s.now, lastWasLevel := true
        lowFlag := flag e.low t.lowFlag, lowLowFlag := flag e.lowLow t.lowLowFlag
        emptyFlag := flag e.emptyMark t.emptyFlag
        runStart := if off then some start else none
        discrepancy := if off then t.discrepancy || decide (start + sec 30 ≤ s.now) else false })
    ∧ (v = 0xFFFFFF → u.tankRec i = { t with standing := .lost, lastWasLevel := false, runStart := none })
    ∧ (∀ j : Fin 12, j ≠ i → u.tankRec j = s.tankRec j)
    ∧ (v ≠ 0xFFFFFF → u.feedConditions ∧ u.discrepancyFollows)
    ∧ (v = 0xFFFFFF → u.cond = s.cond)
    ∧ s.condsBut u [38, 39, 40] ∧ s.sameBut u [.fuel, .cond]
    ∧ s.gaugeTank i e true (some v) = s.modTank i fun t =>
        if v = 0xFFFFFF then { t with standing := .lost, lastWasLevel := false, runStart := none }
        else { t with standing := .lost, level := some level, levelAt := some s.now, lastWasLevel := true })
  ∧ ∀ (s : State) (n : Fin 4),
    (s.engine? n = none → s.cFeed n = 1000)
    ∧ ∀ e : EngineEntry, s.engine? n = some e →
      (s.tankAt? e.feedTank = none → s.cFeed n = 1000)
      ∧ ∀ (i : Fin 12) (x : TankEntry), s.tankAt? e.feedTank = some (i, x) →
        let t := s.tankRec i
        (t.emptyFlag = true → s.cFeed n = 0)
        ∧ (t.emptyFlag = false → t.lowLowFlag = true →
            (s.tableImage 12 = none → s.cFeed n = 500) ∧ ∀ b : Bytes, s.tableImage 12 = some b → s.cFeed n = u16 b 2)
        ∧ (t.emptyFlag = false → t.lowLowFlag = false → s.cFeed n = 1000)

/-- BUNKER RECEIPT, SET TANK BOOK and ZERO CONSUMER, served (R137, R138, R139), each in the order of its tests; the
accepted ones make an account save, and FUEL DISCREPANCY, METER FAULT and ACCOUNT INVALID follow (R135, R143, R145).
A choice byte other than 0 and 1 is answered RANGE, which is the model's choice (notes/assumptions/5.md). -/
def Obligations.FuelRequestsAreAnsweredInOrder : Prop :=
  ∀ (e : Env) (s : State) (station tag : Nat) (fields : Bytes),
    let u := s.enter e
    let index := byteAt fields 0
    (∀ r : MgmtRequest, r = { station := station, kind := 0x09, tag := tag, fields := fields } →
      s.canServe r (some .fuel) →
      let step := exec (.bunkerReceipt e station tag fields) s
      let quantity := u32 fields 1
      let answered (status : Status) : Prop := ∃ t : State, step = .next t ∧ u.answered t r status [] .nothing
      (s.tableImage 8 = none → answered .state)
      ∧ (s.tableImage 8 ≠ none →
          (s.tankAt? index = none → answered .range)
          ∧ ∀ (i : Fin 12) (x : TankEntry), s.tankAt? index = some (i, x) →
            (quantity = 0 ∨ x.capacity * 1000 < quantity → answered .range)
            ∧ (0 < quantity → quantity ≤ x.capacity * 1000 →
                ∃ t : State, step = .next t
                  ∧ t.fuel = { s.fuel with tanks := Bank.upd s.fuel.tanks i fun y =>
                      { y with book := (Book.refresh { y.book with receipts := y.book.receipts + quantity }) } }
                  ∧ s.repliedOk t r [] ∧ s.savedAccounts t e
                  ∧ s.sameBut t [.now, .readBack, .fuel, .store, .tx])))
    ∧ (∀ r : MgmtRequest, r = { station := station, kind := 0x0A, tag := tag, fields := fields } →
      s.canServe r (some .fuel) →
      let step := exec (.setTankBook e station tag fields) s
      let value := u32 fields 2
      let answered (status : Status) : Prop := ∃ t : State, step = .next t ∧ u.answered t r status [] .nothing
      let opened (i : Fin 12) (x : Int) : Prop := ∃ t : State, step = .next t
        ∧ t.fuel = { s.fuel with tanks := Bank.upd s.fuel.tanks i fun y =>
            { y with book := { opening := x, book := x }, discrepancy := false, runStart := none } }
        ∧ s.repliedOk t r [] ∧ s.savedAccounts t e
        ∧ t.discrepancyFollows ∧ t.accountInvalidFollows ∧ s.condsBut t [40, 43]
        ∧ s.sameBut t [.now, .readBack, .fuel, .cond, .store, .tx]
      (s.classOf station ≠ .engineRoom → answered .rights)
      ∧ (s.classOf station = .engineRoom →
          (s.tableImage 8 = none → answered .state)
          ∧ (s.tableImage 8 ≠ none →
              (s.tankAt? index = none → answered .range)
              ∧ ∀ (i : Fin 12) (x : TankEntry), s.tankAt? index = some (i, x) →
                (s.inRun index = true → answered .state)
                ∧ (s.inRun index = false →
                    (byteAt fields 1 = 0 → x.capacity * 1000 < value → answered .range)
                    ∧ (byteAt fields 1 = 0 → value ≤ x.capacity * 1000 → opened i value)
                    ∧ (byteAt fields 1 = 1 → (s.tankRec i).standing ≠ .current → answered .state)
                    ∧ (∀ level : Nat, byteAt fields 1 = 1 → (s.tankRec i).standing = .current →
                        (s.tankRec i).level = some level → opened i (level * 1000))
                    ∧ (1 < byteAt fields 1 → answered .range)))))
    ∧ (∀ r : MgmtRequest, r = { station := station, kind := 0x0B, tag := tag, fields := fields } →
      s.canServe r (some .fuel) →
      let step := exec (.zeroConsumer e station tag fields) s
      let answered (status : Status) : Prop := ∃ t : State, step = .next t ∧ u.answered t r status [] .nothing
      (s.tableImage 8 = none → answered .state)
      ∧ (s.tableImage 8 ≠ none →
          (6 ≤ index → answered .range)
          ∧ ∀ i : Fin 6, index = i.val →
            (s.consumer? i = none → answered .range)
            ∧ (s.consumer? i ≠ none →
                ∃ t : State, step = .next t
                  ∧ t.fuel = { s.fuel with consumers := Bank.upd s.fuel.consumers i fun c =>
                      { c with
                        account := { c.account with total := 0, remainder := 0, unmetered := 0, valid := true }
                        meterFault := false } }
                  ∧ s.repliedOk t r [] ∧ s.savedAccounts t e
                  ∧ t.meterFaultFollows ∧ t.accountInvalidFollows ∧ s.condsBut t [41, 43]
                  ∧ s.sameBut t [.now, .readBack, .fuel, .cond, .store, .tx])))

/-! ## Transfer runs (chapter 8) -/

/-- START TRANSFER, served (R152): BUSY, PERMISSION, STATE and RANGE by the first test that holds; otherwise the run
counter advances, a MANUAL run is STARTING with its target cut to the free space, the start confirm timer runs for 5 s,
TRANSFER FAULT clears and the reply carries the run number.

The auto-refill rules (R159, R160). At a CURRENT reading of an enabled rule's day tank, a tank of another role clears
the latch; a level at or below the low mark with the latch clear sets it and fires the rule; one at or above the low
mark plus the band clears it. A firing rule starts a run while the state is IDLE and TRANSFER FAULT is clear, and waits
otherwise. An auto start makes the tests of START TRANSFER from the second on, its target the high mark less the level:
a refusal is recorded, an acceptance makes an AUTO run and leaves TRANSFER FAULT alone, and either clears the waiting
flag. At a run end each waiting rule in turn starts a run if it still holds, or stops waiting, until one has started.
The model's choices in it: what a level at the low mark does where the band is 0, and that a tank no longer a present
DAY tank has the latch cleared at its next reading alone (notes/assumptions/22.md), a free space of 0 where the level
lies above the capacity, and one taken from the level stored while the gauge node was LOST until the reading after its
return (notes/assumptions/21.md). -/
def Obligations.StartTransferTestsInOrder : Prop :=
  (∀ (s : State) (k : Fin 4) (rule : RefillRule) (i : Fin 12) (tank : TankEntry),
    s.refillRule? k = some rule → s.tankAt? rule.dayTank = some (i, tank) →
    let target := tank.high - (s.tankRec i).level.getD 0
    let permitted := (rule.source, rule.dayTank) ∈ s.permissionPairs
    let ready := s.gaugeCurrent rule.source = true ∧ s.gaugeCurrent rule.dayTank = true ∧ s.pumpPresent = true
    let fits := target ≠ 0 ∧ target ≤ 1000000 ∧ s.freeSpace rule.dayTank ≠ 0
    let number := (s.transfer.counter + 1) % 65536
    let settled (refusal : Option Status) : Vector RuleState 4 := Bank.upd s.transfer.rules k fun x =>
      { x with waiting := false, lastRefusal := refusal }
    let refused (status : Status) : Prop :=
      s.autoStart k rule = { s with transfer := { s.transfer with rules := settled (some status) } }
    (¬ permitted → refused .permission)
    ∧ (permitted → ¬ ready → refused .state)
    ∧ (permitted → ready → ¬ fits → refused .range)
    ∧ (permitted → ready → fits →
        s.autoStart k rule = { s with
          transfer := { s.transfer with
            counter := number
            state := .starting
            run := some
              { number := number, source := rule.source, dest := rule.dayTank
                target := min target (s.freeSpace rule.dayTank)
                clamped := decide (s.freeSpace rule.dayTank < target), origin := some (k.val + 1)
                started := s.now }
            pump := { s.transfer.pump with remainder := 0 }
            confirmTimer := some (s.now + sec 5)
            rules := settled none }
          store := s.store.wrote s.readBack .counter fun x => { x with counter := some number } }))
  ∧ (∀ (s : State) (k : Fin 4),
    let x := s.transfer.rules[k.val]
    let ended : State := { s with transfer := { s.transfer with
      rules := s.transfer.rules.set k.val { x with waiting := false } } }
    (s.transfer.state ≠ .idle ∨ x.waiting = false → s.waitingRule k = s)
    ∧ (s.transfer.state = .idle → x.waiting = true →
        (s.refillRule? k = none → s.waitingRule k = ended)
        ∧ ∀ rule : RefillRule, s.refillRule? k = some rule →
          let holds := ∃ (i : Fin 12) (tank : TankEntry), s.tankAt? rule.dayTank = some (i, tank)
            ∧ tank.role = roleDay ∧ (s.tankRec i).standing = .current
            ∧ (s.tankRec i).level.getD 0 ≤ tank.low
          (holds → s.waitingRule k = s.autoStart k rule) ∧ (¬ holds → s.waitingRule k = ended)))
  ∧ (∀ (s : State) (i : Fin 12) (tank : TankEntry) (level : Nat) (k : Fin 4),
    let x := s.transfer.rules[k.val]
    let t := s.examineRule (i.val + 1) tank level k
    let having (y : RuleState) : State := { s with transfer := { s.transfer with
      rules := s.transfer.rules.set k.val y } }
    ((∀ rule : RefillRule, s.refillRule? k = some rule → rule.dayTank ≠ i.val + 1) → t = s)
    ∧ ∀ rule : RefillRule, s.refillRule? k = some rule → rule.dayTank = i.val + 1 →
      (tank.role ≠ roleDay → t = having { x with latch := false })
      ∧ (tank.role = roleDay →
          (level ≤ tank.low → x.latch = false →
            t = if s.transfer.state = .idle ∧ s.sourceOf 42 = false then
                (having { x with latch := true }).autoStart k rule
              else having { x with latch := true, waiting := true })
          ∧ (tank.low < level ∨ x.latch = true →
              (tank.low + tank.band ≤ level → t = having { x with latch := false })
              ∧ (level < tank.low + tank.band → t = s))))
  ∧ ∀ (e : Env) (s : State) (station tag : Nat) (fields : Bytes) (r : MgmtRequest),
    r = { station := station, kind := 0x07, tag := tag, fields := fields } → s.canServe r (some .fuel) →
    let u := s.enter e
    let source := byteAt fields 0
    let dest := byteAt fields 1
    let target := u32 fields 2
    let step := exec (.startTransfer e station tag fields) s
    let answered (status : Status) : Prop := ∃ t : State, step = .next t ∧ u.answered t r status [] .nothing
    let permitted := (source, dest) ∈ s.permissionPairs
    let ready := s.gaugeCurrent source = true ∧ s.gaugeCurrent dest = true ∧ s.pumpPresent = true
    let fits := target ≠ 0 ∧ target ≤ 1000000 ∧ s.freeSpace dest ≠ 0
    let number := (s.transfer.counter + 1) % 65536
    (s.transfer.state ≠ .idle → answered .busy)
    ∧ (s.transfer.state = .idle →
        (¬ permitted → answered .permission)
        ∧ (permitted → ¬ ready → answered .state)
        ∧ (permitted → ready → ¬ fits → answered .range)
        ∧ (permitted → ready → fits →
            ∃ t : State, step = .next t
              ∧ t.transfer = { s.transfer with
                  counter := number
                  state := .starting
                  run := some
                    { number := number, source := source, dest := dest
                      target := min target (s.freeSpace dest), clamped := decide (s.freeSpace dest < target)
                      origin := none, started := t.now }
                  pump := { s.transfer.pump with remainder := 0 }
                  confirmTimer := some (t.now + sec 5) }
              ∧ t.now = max s.now e.time ∧ s.repliedOk t r (beBytes 2 number)
              ∧ t.store = { s.store.wrote e.readBack .counter fun x => { x with counter := some number } with
                  head := .answered .nothing }
              ∧ t.sourceOf 42 = false ∧ s.condsBut t [42]
              ∧ s.sameBut t [.now, .readBack, .transfer, .cond, .store, .tx]))

/-- ABORT TRANSFER from a station with FUEL rights and TRANSFER STOP from any PRESENT station (R155, R156): a run in
STARTING or RUNNING takes the end cause ABORT or STOP and enters TRAILER, its trailer timer at 10 s; in IDLE and
TRAILER both are answered STATE and change nothing. That a start confirm timer which still runs is stopped on the way
is the model's choice (notes/assumptions/21.md). -/
def Obligations.AbortAndStopEnterTheTrailer : Prop :=
  ∀ (e : Env) (s : State),
    let u := s.enter e
    let running := s.transfer.state = .starting ∨ s.transfer.state = .running
    let trailing (cause : EndCause) : TransferUnit :=
      { s.transfer with
        state := .trailer
        run := s.transfer.run.map fun r => { r with cause := some cause }
        confirmTimer := none
        trailerTimer := some (u.now + sec 10)
        zeroCount := 0 }
    (∀ (station tag : Nat) (r : MgmtRequest), r = { station := station, kind := 0x08, tag := tag, fields := [] } →
      s.canServe r (some .fuel) →
      (running → ∃ t : State, exec (.abortTransfer e station tag []) s = .next t
        ∧ { u with transfer := trailing .abort }.answered t r .ok [] .nothing)
      ∧ (¬ running → ∃ t : State, exec (.abortTransfer e station tag []) s = .next t
        ∧ u.answered t r .state [] .nothing))
    ∧ ∀ (n : Fin 4) (count : Nat), s.offers n count →
      (running → exec (.transferStop e (n.val + 1) count) s =
        .next { (s.tookEvent e n count).setResult n .accepted with transfer := trailing .stop })
      ∧ (¬ running → exec (.transferStop e (n.val + 1) count) s =
        .next ((s.tookEvent e n count).setResult n .state))

/-- The run timers (R153, R157): the start confirm timer's expiry ends the run with cause PUMP FAULT, which
makes TRANSFER FAULT active and starts nothing; the trailer timer's ends the trailer with the run's own cause
and trailer incomplete clear. Either way the closed record stands at the front of the run history, which keeps
eight, and an account save is made with a write of the history. A timer that does not run expires without
effect.

The pump reports (R151, R153, R154, R155, R157). A report is first taken by the pump meter: with no valid baseline
its count only becomes the baseline; a delta within the glitch limit over the gap is accepted, counted in IDLE and
accumulated, floored and booked in a run; any other is rejected and books nothing. Then in STARTING a rejected delta
enters TRAILER with METER FAULT, the fault flag ends the run with PUMP FAULT, and the running flag makes the run
RUNNING; in RUNNING the end causes are tested in R154's order; in TRAILER a rejected delta and the second zero in a
row end the run. A miss grows the gap and clears the zero count; a pump node LOST makes the baseline invalid and
ends the run. Every run end takes the steps of R157, and the waiting auto-refill rules are evaluated unless TRANSFER
FAULT is active. That a run end makes the zero count 0 and stops the timers of the run, and that a run entering TRAILER
stops its start confirm timer, are the model's choices (notes/assumptions/21.md). -/
def Obligations.RunTimersEndTheRun : Prop :=
  (∀ (s : State) (r : Run) (cause : EndCause) (incomplete : Bool), s.transfer.run = some r →
    let closed : Run :=
      { r with
        cause := some cause, incomplete := incomplete
        duration := some (min 65535 ((s.now - r.started) / 100000)) }
    let history := (closed :: s.transfer.history).take 8
    let shut : State :=
      { s with
        transfer := { s.transfer with
          state := .idle, run := none, confirmTimer := none, trailerTimer := none, zeroCount := 0
          history := history }
        cond := if cause = .meterFault ∨ cause = .pumpFault then (s.setSource 42 true).cond else s.cond
        store := (s.store.saved s.readBack s.fuelRegion history s.transfer.counter s.coup.mode).wrote
          s.readBack .history fun x => { x with history := some history } }
    (shut.sourceOf 42 = true → s.endRun cause incomplete = shut)
    ∧ (shut.sourceOf 42 = false →
        s.endRun cause incomplete = (List.finRange 4).foldl (fun u k => u.waitingRule k) shut))
  ∧ (∀ (s : State) (p : PumpReport) (k : PumpConstants), s.pumpConstants? = some k →
    let m := s.transfer.pump
    let x := s.pumpReport p
    let first := m.baseline = none
    let accepted (d : Nat) : Prop :=
      (∃ b : Nat, m.baseline = some b ∧ d = (p.count + 65536 - b) % 65536)
        ∧ m.gap + 1 < 16 ∧ d ≤ k.glitch * (m.gap + 1)
    let rejected := ¬ first ∧ ∀ d : Nat, ¬ accepted d
    let degrees : Int :=
      if p.temp = 0x8000 then m.lastTemp.getD 150 else max (-200) (min 1200 (signed16 p.temp))
    let rebased (remainder : Int) : PumpMeter :=
      { baseline := some p.count, gap := 0, remainder := remainder
        lastTemp := if p.temp = 0x8000 then m.lastTemp else some degrees }
    let kept : State := { s with transfer := { s.transfer with pump := rebased m.remainder } }
    let amount (d : Nat) : Int := m.remainder + d * (1000000 - k.alpha * (degrees - 150))
    let metered (d : Nat) : State :=
      { s with transfer := { s.transfer with
        pump := rebased (amount d % (1000 * k.k : Nat)) } }.bookIncrement (amount d / (1000 * k.k : Nat))
    let taken (u : State) : Prop := (first ∧ u = kept) ∨ ∃ d : Nat, accepted d ∧ u = metered d
    let trailing (u : State) (cause : EndCause) : State :=
      { u with transfer := { u.transfer with
        state := .trailer
        run := u.transfer.run.map fun r => { r with cause := some cause }
        confirmTimer := none, trailerTimer := some (u.now + sec 10), zeroCount := 0 } }
    (s.transfer.state = .idle →
      (first ∨ rejected → x = kept)
      ∧ ∀ d : Nat, accepted d → x = { kept with transfer := { kept.transfer with
          idleCount := min 65535 (s.transfer.idleCount + d) } })
    ∧ (s.transfer.state = .starting →
        (rejected → x = trailing kept .meterFault)
        ∧ ∀ u : State, taken u →
          (p.fault = true → x = u.endRun .pumpFault false)
          ∧ (p.fault = false → p.running = true →
              x = { u with transfer := { u.transfer with state := .running, confirmTimer := none } })
          ∧ (p.fault = false → p.running = false → x = u))
    ∧ (s.transfer.state = .running → s.transfer.run.isSome = true →
        (rejected → x = trailing kept .meterFault)
        ∧ ∀ (u : State) (r : Run), taken u → u.transfer.run = some r →
          let failed := p.fault = true ∨ p.running = false
          let full := (r.target : Int) * 1000 ≤ r.moved
          let high := ∃ (i : Fin 12) (e : TankEntry), u.tankAt? r.dest = some (i, e)
            ∧ e.high ≤ (u.tankRec i).level.getD 0
          let low := ∃ (i : Fin 12) (e : TankEntry), u.tankAt? r.source = some (i, e)
            ∧ (u.tankRec i).level.getD 0 ≤ e.low
          (failed → x = u.endRun .pumpFault true)
          ∧ (¬ failed → full → x = trailing u .target)
          ∧ (¬ failed → ¬ full → high → x = trailing u .destinationHigh)
          ∧ (¬ failed → ¬ full → ¬ high → low → x = trailing u .sourceLow)
          ∧ (¬ failed → ¬ full → ¬ high → ¬ low → x = u))
    ∧ (∀ (r : Run) (cause : EndCause), s.transfer.state = .trailer → s.transfer.run = some r →
        r.cause = some cause →
        (rejected → x = kept.endRun cause true)
        ∧ (first → x = kept)
        ∧ ∀ d : Nat, accepted d →
          let counting (zeros : Nat) : State :=
            { metered d with transfer := { (metered d).transfer with zeroCount := zeros } }
          (0 < d → x = counting 0)
          ∧ (d = 0 → s.transfer.zeroCount = 0 → x = counting 1)
          ∧ (d = 0 → 1 ≤ s.transfer.zeroCount →
              x = (counting (s.transfer.zeroCount + 1)).endRun cause false)))
  ∧ (∀ s : State,
    let deaf : State := { s with transfer := { s.transfer with
      pump := { s.transfer.pump with baseline := none } } }
    s.pumpMiss = { s with transfer := { s.transfer with
      pump := { s.transfer.pump with gap := min 255 (s.transfer.pump.gap + 1) }
      zeroCount := if s.transfer.state = .trailer then 0 else s.transfer.zeroCount } }
    ∧ (s.transfer.state = .idle → s.pumpLost = deaf)
    ∧ (s.transfer.state = .starting → s.pumpLost = deaf.endRun .pumpFault false)
    ∧ (s.transfer.state = .running → s.pumpLost = deaf.endRun .pumpFault true)
    ∧ ∀ (r : Run) (cause : EndCause), s.transfer.state = .trailer → s.transfer.run = some r →
        r.cause = some cause → s.pumpLost = deaf.endRun cause true)
  ∧ ∀ (e : Env) (s : State) (r : Run) (d : Moment),
    let m := max (max s.now e.time) d
    let closed (cause : EndCause) : Run :=
      { r with
        cause := some cause, incomplete := false, duration := some (min 65535 ((m - r.started) / 100000)) }
    (s.transfer.state ≠ .starting ∨ s.transfer.confirmTimer = none →
      exec (.startConfirmTimerExpiry e) s = .next (s.enter e))
    ∧ (s.transfer.state ≠ .trailer ∨ s.transfer.trailerTimer = none →
      exec (.trailerTimerExpiry e) s = .next (s.enter e))
    ∧ (s.transfer.state = .starting → s.transfer.confirmTimer = some d → s.transfer.run = some r →
        ∃ t : State, exec (.startConfirmTimerExpiry e) s = .next t ∧ t.now = m
          ∧ t.transfer = { s.transfer with
              state := .idle, run := none, confirmTimer := none, trailerTimer := none, zeroCount := 0
              history := (closed .pumpFault :: s.transfer.history).take 8 }
          ∧ t.sourceOf 42 = true ∧ s.condsBut t [42]
          ∧ t.store = (s.savedStore t e).wrote e.readBack .history
              (fun x => { x with history := some t.transfer.history })
          ∧ s.sameBut t [.now, .readBack, .transfer, .cond, .store])
    ∧ (∀ cause : EndCause, s.transfer.state = .trailer → s.transfer.trailerTimer = some d →
        s.transfer.run = some r → r.cause = some cause →
        ∃ t : State, exec (.trailerTimerExpiry e) s = .next t ∧ t.now = m
          ∧ t.transfer.history = (closed cause :: s.transfer.history).take 8
          ∧ (cause = .meterFault ∨ cause = .pumpFault → t.sourceOf 42 = true)
          ∧ ((∀ x : Fin 4, (s.transfer.rules[x.val]).waiting = false) →
              t.transfer = { s.transfer with
                state := .idle, run := none, confirmTimer := none, trailerTimer := none, zeroCount := 0
                history := t.transfer.history })
          ∧ (e.readBack.failed = [] → t.store.retained.fuel = some s.fuelRegion
              ∧ t.store.retained.history = some t.transfer.history ∧ t.store.owed = [])
          ∧ s.condsBut t [42] ∧ s.sameBut t [.now, .readBack, .transfer, .cond, .store])

/-! ## Conditions (chapter 9) -/

/-- The alarm states (R164). A source that becomes active makes its code ACTIVE-UNACKED from NORMAL and from
CLEARED-UNACKED; one that clears makes an ACTIVE-UNACKED code CLEARED-UNACKED and an ACTIVE-ACKED one NORMAL;
an acknowledgement makes them ACTIVE-ACKED and NORMAL; no other code moves. The two orders of a clearing and an
acknowledgement both end in NORMAL, those of a return and an acknowledgement in ACTIVE-UNACKED and ACTIVE-ACKED.
The reaction ceilings, the alarm lines, the summary's code and count, and whether any code is unacknowledged follow the
alarm states of the moment (R168, R170, R174). Each alarm pin shows its line under the mode that table 13 gives it
(R171): DISABLED never drives it, OPEN-DRAIN pulls it low while the line is asserted and else leaves it undriven, as it
does while table 13 is INVALID, and PUSH-PULL drives it low or high. -/
def Obligations.AlarmStatesFollowTheTable : Prop :=
  (∀ (s : State) (i : Fin 45), s.cond.alarmsFollow →
    let a := s.cond.alarm[i.val]
    let up := s.setSource (i.val + 1) true
    let down := s.setSource (i.val + 1) false
    let acked := s.acknowledge i
    (a = .normal → up.cond.alarm[i.val] = .activeUnacked ∧ down = s)
    ∧ (a = .activeUnacked → up = s ∧ down.cond.alarm[i.val] = .clearedUnacked
        ∧ acked.cond.alarm[i.val] = .activeAcked
        ∧ (acked.setSource (i.val + 1) false).cond.alarm[i.val] = .normal
        ∧ (down.acknowledge i).cond.alarm[i.val] = .normal)
    ∧ (a = .activeAcked → up = s ∧ down.cond.alarm[i.val] = .normal)
    ∧ (a = .clearedUnacked → up.cond.alarm[i.val] = .activeUnacked ∧ down = s
        ∧ acked.cond.alarm[i.val] = .normal
        ∧ (acked.setSource (i.val + 1) true).cond.alarm[i.val] = .activeUnacked
        ∧ (up.acknowledge i).cond.alarm[i.val] = .activeAcked)
    ∧ (∀ j : Fin 45, j ≠ i →
        up.cond.alarm[j.val] = s.cond.alarm[j.val] ∧ down.cond.alarm[j.val] = s.cond.alarm[j.val]
          ∧ acked.cond.alarm[j.val] = s.cond.alarm[j.val])
    ∧ acked.cond.source = s.cond.source
    ∧ s.sameBut up [.cond] ∧ s.sameBut down [.cond] ∧ s.sameBut acked [.cond])
  ∧ ∀ (s : State) (n : Fin 4),
    let caps (i : Fin 45) : Prop :=
      bitOf (s.reaction i).mask n.val = true
        ∧ (s.cond.alarm[i.val] = .activeUnacked ∨ s.cond.alarm[i.val] = .activeAcked
          ∨ (s.cond.alarm[i.val] = .clearedUnacked ∧ (s.reaction i).hold = true))
    let shown (i : Fin 45) : Prop := (s.cond.alarm[i.val]).unacked = true ∧ (s.reaction i).notify = true
    s.cReact n ≤ 1000 ∧ (∀ i : Fin 45, caps i → s.cReact n ≤ (s.reaction i).cap)
    ∧ (s.cReact n = 1000 ∨ ∃ i : Fin 45, caps i ∧ s.cReact n = (s.reaction i).cap)
    ∧ (s.lineAsserted false = true ↔
        ∃ i : Fin 45, (s.cond.alarm[i.val]).unacked = true ∧ (s.reaction i).lineA = true)
    ∧ (s.lineAsserted true = true ↔
        ∃ i : Fin 45, (s.cond.alarm[i.val]).unacked = true ∧ (s.reaction i).lineB = true)
    ∧ (∀ lineB : Bool,
        (s.tableImage 12 = none → s.alarmPin lineB = if s.lineAsserted lineB then .low else .notDriven)
        ∧ ∀ b : Bytes, s.tableImage 12 = some b →
          let mode := byteAt b (if lineB then 5 else 4)
          (mode = 0 → s.alarmPin lineB = .notDriven)
          ∧ (mode = 1 → s.alarmPin lineB = if s.lineAsserted lineB then .low else .notDriven)
          ∧ (mode = 2 → s.alarmPin lineB = if s.lineAsserted lineB then .low else .high))
    ∧ (s.summaryCode = 0 ↔ ∀ i : Fin 45, ¬ shown i)
    ∧ (∀ i : Fin 45, s.summaryCode = i.val + 1 ↔
        (shown i ∧ ∀ j : Fin 45, shown j →
          (s.reaction i).cls < (s.reaction j).cls ∨ ((s.reaction i).cls = (s.reaction j).cls ∧ i.val ≤ j.val)))
    ∧ s.summaryCount = (List.finRange 45).countP (fun i =>
        (s.cond.alarm[i.val] = .activeUnacked || s.cond.alarm[i.val] = .clearedUnacked) && (s.reaction i).notify)
    ∧ (s.anyUnacked = true ↔
        ∃ i : Fin 45, s.cond.alarm[i.val] = .activeUnacked ∨ s.cond.alarm[i.val] = .clearedUnacked)

/-- NEXT ALARM, served (R173): with no code unacknowledged the answer is OK with code 0, class 0, NORMAL and
count 0, and nothing else changes; otherwise the highest-priority unacknowledged code is acknowledged and
answered OK with the code, its class, the alarm state it was found in, and how many codes stay unacknowledged. -/
def Obligations.NextAlarmReadsOutTheHighestCode : Prop :=
  ∀ (e : Env) (s : State) (station tag : Nat) (r : MgmtRequest),
    r = { station := station, kind := 0x06, tag := tag, fields := [] } → s.canServe r none →
    let u := s.enter e
    let step := exec (.nextAlarm e station tag []) s
    ((∀ i : Fin 45, (s.cond.alarm[i.val]).unacked = false) →
      ∃ t : State, step = .next t ∧ u.answered t r .ok [0, 0, 0, 0] .nothing)
    ∧ ∀ i : Fin 45, s.highestUnackedIs i →
      let found := s.cond.alarm[i.val]
      let acked : State := { u with cond := { s.cond with
        alarm := s.cond.alarm.set i.val (if found = .activeUnacked then .activeAcked else .normal) } }
      let left := (List.finRange 45).countP fun j => j ≠ i && (s.cond.alarm[j.val]).unacked
      ∃ t : State, step = .next t
        ∧ acked.answered t r .ok
            [byte (i.val + 1), byte (s.reaction i).cls, if found = .activeUnacked then 1 else 3, byte left]
            .nothing

/-! ## The management queue (chapter 10) -/

/-- A management frame of a fitted station (R178) joins the end of the queue, or is answered BUSY at once when 4
requests wait, whatever its payload. At its head, a request of an unknown kind is answered UNKNOWN, one whose fields do
not fit its kind RANGE, and one from a station without the rights its kind asks for RIGHTS (R177), with nothing else
changed. That the length is tested before the rights, that a LOAD BEGIN, LOAD DATA or LOAD END whose length does not fit
leaves the load and its timer alone, also where the buffer's owner sends it, and that a payload which ends before its
tag stands in the queue with tag 0, an empty one with kind 0, is the model's choice (notes/assumptions/5.md). -/
def Obligations.RequestsArriveOrAreTurnedAway : Prop :=
  (∀ (e : Env) (s : State) (n : Fin 4) (kind tag : Byte) (fields : Bytes), (s.stationAt n).fitted = true →
    let u := (s.enter e).countStationGood
    let r : MgmtRequest := { station := n.val + 1, kind := kind.toNat, tag := tag.toNat, fields := fields }
    let step := exec (.managementFrame e s.ownAddress (n.val + 1) (kind :: tag :: fields)) s
    (s.store.queue.length < 4 →
      step = .next { u with store := { s.store with queue := s.store.queue ++ [r] } })
    ∧ (4 ≤ s.store.queue.length →
      step = .next { u with tx := { s.tx with replies := s.tx.replies ++ [r.reply .busy [] false] } }))
  ∧ (∀ (e : Env) (s : State) (n : Fin 4) (payload : Bytes), (s.stationAt n).fitted = true → payload.length < 2 →
    let u := (s.enter e).countStationGood
    let r : MgmtRequest :=
      { station := n.val + 1, kind := byteAt payload 0, tag := 0, fields := [], short := true }
    let step := exec (.managementFrame e s.ownAddress (n.val + 1) payload) s
    (s.store.queue.length < 4 →
      step = .next { u with store := { s.store with queue := s.store.queue ++ [r] } })
    ∧ (4 ≤ s.store.queue.length →
      step = .next { u with tx := { s.tx with replies := s.tx.replies ++ [r.reply .busy [] false] } }))
  ∧ ∀ (e : Env) (s : State) (station tag kind : Nat) (fields : Bytes) (short : Bool) (r : MgmtRequest),
    r = { station := station, kind := kind, tag := tag, fields := fields } → s.atHead { r with short := short } →
    let u := s.enter e
    (¬ (1 ≤ kind ∧ kind ≤ 0x0E) →
      ∃ t : State, exec (.unknownRequest e station kind tag fields) s = .next t
        ∧ u.answered t r .unknown [] .nothing)
    ∧ ∀ (c : Instr) (least most : Nat) (rights : Option Rights),
      (kind, c, least, most, rights) ∈
        [(0x01, Instr.loadBegin e station tag fields, 3, 3, none),
         (0x02, .loadData e station tag fields, 3, 26, none),
         (0x03, .loadEnd e station tag fields, 2, 2, none),
         (0x04, .readTable e station tag fields, 4, 4, none),
         (0x05, .readState e station tag fields, 3, 3, none),
         (0x06, .nextAlarm e station tag fields, 0, 0, none),
         (0x07, .startTransfer e station tag fields, 6, 6, some .fuel),
         (0x08, .abortTransfer e station tag fields, 0, 0, some .fuel),
         (0x09, .bunkerReceipt e station tag fields, 5, 5, some .fuel),
         (0x0A, .setTankBook e station tag fields, 6, 6, some .fuel),
         (0x0B, .zeroConsumer e station tag fields, 1, 1, some .fuel),
         (0x0C, .towNodeAccess e station tag fields, 4, 20, some .nav),
         (0x0D, .clearCounters e station tag fields, 0, 0, some .sys),
         (0x0E, .restart e station tag fields, 0, 0, some .sys)] →
      (short = true ∨ fields.length < least ∨ most < fields.length →
        ∃ t : State, exec c s = .next t ∧ u.answered t r .range [] .nothing)
      ∧ (short = false → least ≤ fields.length → fields.length ≤ most →
          ∀ g : Rights, rights = some g → s.holdsRight station g = false →
            ∃ t : State, exec c s = .next t ∧ u.answered t r .rights [] .nothing)

/-- READ TABLE and READ STATE answer from the state and change nothing else; CLEAR COUNTERS zeroes the line counters,
the total misses of both lines' nodes, the idle pulse count and the store's counters; RESTART is answered OK with the
control restart to follow its reply (R179, R185).

The records that READ STATE reads are given group by group, field by field, each with its width and value (R21, R30,
R64, R80, R99, R117, R146, R161, R179, R194, sections 11.2 and 11.3), for every state; an index that no record of the
group has gives none. The order and the width of a field where the manual leaves them open, a lever's two bytes, an aux
bit's yes or no, the event code's byte, the codes of the authority forms, of the validities and of the pump order's run,
the history positions without a run, and every field whose value is none, unset, stopped or not in use sent as all ones
(a last engaged direction of none and an invalid pump baseline among them) are the model's choices
(notes/assumptions/15.md), and so is that the poll interval is the loaded general table's at once
(notes/assumptions/22.md). -/
def Obligations.ReadoutsAnswerAndCountersClear : Prop :=
  (∀ s : State,
    let record (group index : Nat) (fields : List (Nat × Int)) : Prop :=
      ∃ b : Bytes, s.record? group index = some b ∧ carries b fields
    let four (width : Nat) (f : Fin 4 → Int) : List (Nat × Int) := (List.finRange 4).map fun c => (width, f c)
    let moment (t : Option Moment) : Int := fieldOf t fun d => ((d - s.epoch) / 100 : Nat)
    let number (x : Option Nat) : Int := fieldOf x fun n => n
    let part (id : Fin 13) (offset length : Nat) : List (Nat × Int) :=
      match s.tableImage id with
      | none => List.replicate length (1, -1)
      | some b => ((b.drop offset).take length).map fun x => (1, (x.toNat : Int))
    let a := s.station
    let form : Int :=
      (if a.holder.isSome then 2 else if a.orphanTimer.isSome then 4 else 0) + yesNo a.requester.isSome
    let authority : List (Nat × Int) :=
      [(1, form), (1, fieldOf a.holder fun n => n.val + 1), (1, fieldOf a.requester fun n => n.val + 1),
        (2, s.timerField a.transferTimer), (2, s.timerField a.orphanTimer)]
        ++ four 2 (fun c => a.inUse.levers[c.val]) ++ [(2, a.inUse.steering), (2, a.inUse.flanking)]
        ++ four 1 (fun c => yesNo a.inUse.aux[c.val])
        ++ (List.finRange 4).flatMap fun c =>
          [(2, s.timerField a.invalidTimer[c.val]), (1, yesNo a.leverFault[c.val])]
    let run (r : Option Run) : List (Nat × Int) :=
      match r with
      | none => [(31, -1)]
      | some x =>
        [(2, (x.number : Int)), (1, (x.source : Int)), (1, (x.dest : Int)), (4, (x.target : Int)),
          (1, yesNo x.clamped), (1, yesNo x.origin.isSome), (1, number x.origin), (8, x.moved), (8, x.trailer),
          (1, fieldOf x.cause fun c => c.code), (1, yesNo x.incomplete),
          (2, match x.duration with
            | some d => (d : Int)
            | none => min 65535 ((s.now - x.started) / 100000 : Nat))]
    let basic (c : BasicCounters) : List (Nat × Int) :=
      [(2, (c.framing : Int)), (2, (c.length : Int)), (2, (c.crc : Int)), (2, (c.discarded : Int))]
    (∀ n : Fin 4,
      let x := s.stationAt n
      record 1 (n.val + 1)
        ([(1, (n.val : Int) + 1), (1, (x.cls.code : Int)), (1, yesNo x.fitted), (1, (x.presence.code : Int)),
            (2, (x.good : Int)), (2, s.timerField x.silence)]
          ++ (match x.frame with
            | none => [(23, -1)]
            | some f =>
              ((List.finRange 4).flatMap fun c => [(2, f.levers[c.val]), (1, yesNo f.valid[c.val])])
                ++ [(2, f.steering), (2, f.flanking)] ++ four 1 (fun c => yesNo f.aux[c.val])
                ++ [(1, (f.code : Int)), (2, (f.count : Int))])
          ++ [(2, number x.baseline), (1, (x.result.code : Int))] ++ authority))
    ∧ (∀ n : Fin 4,
      let g := s.engineAt n
      record 2 (n.val + 1)
        ([(1, ((s.publishedGear n).code : Int)), (1, ((s.publishedGear n).command : Int)),
            (1, fieldOf g.lastDir fun d => d.code), (1, fieldOf g.shiftTarget fun d => d.code),
            (1, (g.phase.code : Int)), (2, s.timerField g.dwell), (2, s.timerField g.confirm),
            (1, yesNo g.gearFault), (2, (g.setpoint : Int)), (2, g.trim), (1, (g.member.code : Int)),
            (2, number g.rpm), (1, number g.confirmedGear), (1, fieldOf g.flags fun f => yesNo f.running),
            (1, fieldOf g.flags fun f => yesNo f.alarm), (1, fieldOf g.flags fun f => yesNo f.local_),
            (1, (g.standing.code : Int)), (1, yesNo g.fresh), (2, s.ageField (some g.ageFrom)),
            (1, ((s.engineState n).code : Int))] ++ four 1 (fun c => yesNo s.prop.sync[c.val])))
    ∧ (∀ i : Fin 7,
      let x := s.actuatorAt i
      record 3 (i.val + 1)
        ([(2, x.target), (2, x.commanded), (2, fieldOf x.reported id), (1, (x.standing.code : Int)),
            (1, yesNo x.fault)]
          ++ (if i = bowIx then [(1, yesNo x.usable)] else [])
          ++ [(1, fieldOf (s.actuator? i) fun e => e.node)]))
    ∧ (∀ i : Fin 30,
      let x := s.machNodeAt i
      record 4 (i.val + 1)
        [(1, (x.state.code : Int)), (2, (x.misses : Int)), (2, (x.good : Int)), (2, (x.total : Int)),
          (2, s.ageField x.lastGood), (1, number (s.contentKind (i.val + 1))), (2, (s.mach.cycleCount : Int)),
          (2, fieldOf (s.tableImage 4) fun b => slotPeriodOf b), (1, yesNo s.mach.pendingTable.isSome)])
    ∧ (∀ (i : Nat) (x : TowNode) (m : MakeUpEntry), s.towLine.nodes[i]? = some x → s.pollList[i]? = some m →
      record 5 (i + 1)
        ([(1, (x.state.code : Int)), (2, (x.good : Int)), (2, (x.missed : Int)), (2, (x.total : Int))]
          ++ (match x.reply with
            | none => [(m.channels + 2 + (if m.bow then 2 else 0), -1)]
            | some r => r.codes.map (fun c => (1, (c.toNat : Int)))
                ++ [(1, (r.condition : Int)), (1, (r.inBits.toNat : Int))]
                ++ (if m.bow then [(2, fieldOf r.bow id)] else []))
          ++ [(2, s.ageField x.lastGood), (1, (m.address : Int)), (1, (i : Int) + 1),
            (1, if s.towLine.pos = 0 then -1 else (s.towLine.pos : Int)),
            (4, moment (if s.towLine.running then some s.towLine.cycleStart else none)),
            (2, (s.pollInterval : Int)), (1, yesNo s.towLine.access.isSome),
            (1, fieldOf s.towLine.access fun x => x.address)]))
    ∧ (∀ (i : Nat) (x : Coupling) (c : CouplingEntry), s.coup.records[i]? = some x →
      s.couplingEntries[i]? = some c →
      record 6 (i + 1)
        ([(1, (x.state.code : Int)), (2, number x.last), (4, fieldOf x.last fun t => t * 1000 / c.rated),
            (2, (x.taut : Int)), (2, (x.slack : Int)), (2, (x.sensor : Int))]
          ++ (match x.cause with
            | none => [(2, -1)]
            | some .start => [(1, 0), (1, -1)]
            | some .nodeSilent => [(1, 1), (1, -1)]
            | some (.nodeFault code) => [(1, 2), (1, (code : Int))]
            | some .sensorFault => [(1, 3), (1, -1)])
          ++ part 6 (1 + 6 * i) 6
          ++ [(2, (s.coup.cTow : Int)), (2, (s.cCap : Int)), (4, number s.rhoMax), (1, yesNo s.coup.startLimit),
            (1, (s.coup.mode.code : Int)),
            (2, fieldOf s.coup.rejoinStart fun t => ((t + sec s.towLimits.rejoin - s.now) / 100000 : Nat))]))
    ∧ (∀ i : Fin 6,
      let x := s.consumerAt i
      record 7 (i.val + 1)
        ([(8, x.account.total), (8, x.account.remainder), (2, (x.account.unmetered : Int)),
            (2, fieldOf x.account.lastTemp id), (1, yesNo !x.account.valid), (1, yesNo x.baseValid),
            (2, (x.baseSupply : Int)), (2, (x.baseReturn : Int)), (2, (x.gap : Int)),
            (2, fieldOf x.held fun h => h.net), (4, fieldOf x.held fun h => h.factor), (1, yesNo x.meterFault)]
          ++ part 8 (9 * i.val) 9
          ++ [(1, if s.feedTankOf i = 0 then -1 else (s.feedTankOf i : Int)), (2, number x.tempCode)]))
    ∧ (∀ i : Fin 12,
      let x := s.tankRec i
      record 8 (i.val + 1)
        ([(8, x.book.opening), (8, x.book.receipts), (8, x.book.moveIn), (8, x.book.moveOut),
            (8, x.book.consumption), (8, x.book.book), (1, yesNo !x.book.valid), (1, (x.standing.code : Int)),
            (4, number x.level), (2, s.ageField x.levelAt), (1, (x.feedState.code : Int)), (1, yesNo x.lowFlag),
            (1, yesNo x.lowLowFlag), (1, yesNo x.emptyFlag)]
          ++ four 2 (fun n => match s.engine? n with
            | none => -1
            | some e => if e.feedTank = i.val + 1 then (s.cFeed n : Int) else -1)
          ++ [(1, yesNo x.discrepancy), (4, moment x.runStart)] ++ part 8 (54 + 18 * i.val) 18))
    ∧ (let t := s.transfer
       record 9 1
        ([(1, (t.state.code : Int))] ++ run t.run
          ++ [(2, s.timerField t.confirmTimer), (2, s.timerField t.trailerTimer), (2, (t.zeroCount : Int)),
            (1, yesNo t.order.run), (1, (t.order.source : Int)), (1, (t.order.dest : Int)),
            (2, number t.pump.baseline), (2, (t.pump.gap : Int)), (8, t.pump.remainder),
            (2, fieldOf t.pump.lastTemp id), (2, (t.idleCount : Int))])
       ∧ ∀ position : Fin 8, record 10 (position.val + 1)
          (run t.history[position.val]? ++ [(2, (t.counter : Int))]
            ++ (List.finRange 4).flatMap fun k =>
              let r := t.rules[k.val]
              [(1, yesNo r.latch), (1, yesNo r.waiting), (1, fieldOf r.lastRefusal fun c => c.code)]))
    ∧ (let l := s.lines
       record 11 0 ([(2, (l.stationGood : Int))] ++ basic l.station ++ [(2, (l.stationTransmit : Int))])
       ∧ record 11 1 (basic l.machinery ++ [(2, (l.machWrongSource : Int)), (2, (l.machStray : Int)),
          (2, (l.machLate : Int)), (2, (l.machOverruns : Int))])
       ∧ record 11 2 (basic l.tow ++ [(2, (l.towWrongSource : Int)), (2, (l.towMalformed : Int)),
          (2, (l.towStray : Int)), (2, (l.towLate : Int))]))
    ∧ record 12 1
        (((List.finRange 13).flatMap fun id => [(1, yesNo !(s.slot id).valid), (1, yesNo (s.slot id).fault)])
          ++ [(1, yesNo s.mach.pendingTable.isSome), (1, fieldOf s.store.buffer fun b => b.owner),
            (1, fieldOf s.store.buffer fun b => b.table), (1, fieldOf s.store.waitingLoad fun w => w.station),
            (2, (s.store.corrected : Int)), (2, (s.store.writeFailures : Int))])
    ∧ ∀ group index : Nat,
      ((1 ≤ group ∧ group ≤ 10 ∨ group = 12) ∧ index = 0)
        ∨ (∃ last : Nat, last < index ∧ (group, last) ∈ [(1, 4), (2, 4), (3, 7), (4, 30), (5, s.pollList.length),
            (5, s.towLine.nodes.length), (6, s.coup.records.length), (6, s.couplingEntries.length), (7, 6), (8, 12),
            (9, 1), (10, 8), (11, 2), (12, 1)])
        ∨ group = 0 ∨ 12 < group → s.record? group index = none)
  ∧ ∀ (e : Env) (s : State) (station tag : Nat),
    let u := s.enter e
    (∀ (fields : Bytes) (r : MgmtRequest),
      r = { station := station, kind := 0x04, tag := tag, fields := fields } → s.canServe r none →
      let table := byteAt fields 0
      let offset := u16 fields 1
      let length := byteAt fields 3
      let answered (status : Status) (data : Bytes) : Prop :=
        ∃ t : State, exec (.readTable e station tag fields) s = .next t ∧ u.answered t r status data .nothing
      (table = 0 ∨ 13 < table → answered .range [])
      ∧ ∀ id : Fin 13, table = id.val + 1 →
        let x := s.slot id
        (length = 0 → answered .ok
          (beBytes 2 x.image.length ++ beBytes 2 x.crc
            ++ [byte ((if x.valid then 1 else 0) + (if x.fault then 2 else 0)
              + (if id = 4 ∧ s.mach.pendingTable ≠ none then 4 else 0))]))
        ∧ (length ≠ 0 → x.valid = false → answered .state [])
        ∧ (length ≠ 0 → x.valid = true → 24 < length ∨ x.image.length < offset + length →
            answered .range [])
        ∧ (length ≠ 0 → x.valid = true → length ≤ 24 → offset + length ≤ x.image.length →
            answered .ok ((x.image.drop offset).take length)))
    ∧ (∀ (fields : Bytes) (r : MgmtRequest),
      r = { station := station, kind := 0x05, tag := tag, fields := fields } → s.canServe r none →
      let group := byteAt fields 0
      let part := byteAt fields 2
      let answered (status : Status) (data : Bytes) : Prop :=
        ∃ t : State, exec (.readState e station tag fields) s = .next t ∧ u.answered t r status data .nothing
      (group = 0 ∨ 12 < group → answered .range [])
      ∧ (u.record? group (byteAt fields 1) = none → answered .range [])
      ∧ ∀ record : Bytes, u.record? group (byteAt fields 1) = some record →
        let parts := (record.length + 23) / 24
        (parts ≤ part → answered .range [])
        ∧ (part < parts → answered .ok (byte parts :: (record.drop (24 * part)).take 24)))
    ∧ (∀ r : MgmtRequest, r = { station := station, kind := 0x0D, tag := tag, fields := [] } →
      s.canServe r (some .sys) →
      ∃ t : State, exec (.clearCounters e station tag []) s = .next t
        ∧ t.lines = {}
        ∧ (∀ i : Fin 30, t.machNodeAt i = { s.machNodeAt i with total := 0 })
        ∧ t.mach = { s.mach with nodes := t.mach.nodes }
        ∧ t.towLine = { s.towLine with nodes := s.towLine.nodes.map fun n => { n with total := 0 } }
        ∧ t.transfer = { s.transfer with idleCount := 0 }
        ∧ t.store = { s.store with corrected := 0, writeFailures := 0, head := .answered .nothing }
        ∧ s.repliedOk t r []
        ∧ s.sameBut t [.now, .readBack, .lines, .mach, .towLine, .transfer, .store, .tx])
    ∧ ∀ r : MgmtRequest, r = { station := station, kind := 0x0E, tag := tag, fields := [] } →
      s.canServe r (some .sys) →
      ∃ t : State, exec (.restart e station tag []) s = .next t ∧ u.answered t r .ok [] .restart

/-- TOW NODE ACCESS, served (R96, R97): STATE without a make-up table, RANGE for an address that is no entry's or a
length or data that does not fit; otherwise it is the transaction in flight, waiting for the poll in progress to
end, or begun at once when none is: its NODE ACCESS frame leaves and its 200 ms run. A direction other than READ
and WRITE, and data with a READ, are answered RANGE, which is the model's choice (notes/assumptions/5.md). -/
def Obligations.TowNodeAccessIsTestedThenTaken : Prop :=
  ∀ (e : Env) (s : State) (station tag : Nat) (fields : Bytes) (r : MgmtRequest),
    r = { station := station, kind := 0x0C, tag := tag, fields := fields } → s.canServe r (some .nav) →
    let u := s.enter e
    let address := byteAt fields 0
    let direction := byteAt fields 1
    let length := byteAt fields 3
    let data := fields.drop 4
    let step := exec (.towNodeAccess e station tag fields) s
    let answered (status : Status) : Prop := ∃ t : State, step = .next t ∧ u.answered t r status [] .nothing
    let access : NodeAccess :=
      { address := address, write := decide (direction = 1), offset := byteAt fields 2, length := length
        data := data }
    (1 < direction ∨ (direction = 0 ∧ data ≠ []) → answered .range)
    ∧ (direction = 1 ∨ (direction = 0 ∧ data = []) →
        (s.tableImage 5 = none → answered .state)
        ∧ (s.tableImage 5 ≠ none →
            ((∀ m ∈ s.pollList, m.address ≠ address) → answered .range)
            ∧ ((∃ m ∈ s.pollList, m.address = address) →
                (length = 0 ∨ 16 < length ∨ (direction = 1 ∧ data.length ≠ length) → answered .range)
                ∧ (1 ≤ length → length ≤ 16 → (direction = 1 → data.length = length) →
                    (s.towLine.window.isSome = true → step = .next
                      { u with
                        towLine := { s.towLine with access := some access }
                        store := { s.store with head := .handed } })
                    ∧ (s.towLine.window = none → step = .next
                      { u with
                        towLine := { s.towLine with
                          spent := none
                          access := some { access with deadline := some (u.now + ms 200) } }
                        store := { s.store with head := .handed }
                        sent := { s.sent with tow :=
                          { dst := address, src := 0xFE, kind := 0x22
                            payload := [byte direction, byte (byteAt fields 2), byte length] ++ data }
                            :: s.sent.tow } })))))

/-! ## Table loads (chapter 10) -/

/-- LOAD BEGIN, served (R180): against a free buffer, RANGE, RIGHTS and RANGE by the first check that fails,
otherwise the buffer opens, all bytes 0 and its timer at 5 s; from the owner the same, with a refusal leaving the
buffer free; from another station into the empty waiting-load slot, in place of its own waiting BEGIN, which is
answered BUSY, or answered BUSY itself. The inactivity timer's expiry (R182) frees the buffer, and a waiting BEGIN
is then taken against it. That the reply to a LOAD END already answered then frees nothing when it is sent is the
model's choice (notes/assumptions/9.md). -/
def Obligations.LoadBeginTakesTheBufferOrWaits : Prop :=
  ∀ (e : Env) (s : State),
    let u := s.enter e
    (∀ (station tag : Nat) (fields : Bytes) (r : MgmtRequest),
      r = { station := station, kind := 0x01, tag := tag, fields := fields } → s.canServe r none →
      let table := byteAt fields 0
      let length := u16 fields 1
      let step := exec (.loadBegin e station tag fields) s
      let answered (x : State) (status : Status) (after : AfterReply) : Prop :=
        ∃ t : State, step = .next t ∧ x.answered t r status [] after
      let parked : TableStore :=
        { s.store with
          waitingLoad := some { station := station, tag := tag, table := table, length := length }
          queue := s.store.queue.tail, head := .waiting }
      ((s.store.buffer = none ∨ ∃ b : LoadBuffer, s.store.buffer = some b ∧ b.owner = station) →
        (∀ status : Status, s.beginRefused station table length status →
          answered { u with store := { s.store with buffer := none } } status
            (if s.store.buffer = none then .nothing else .takeWaiting))
        ∧ (s.beginPasses station table length →
          answered { u with store := { s.store with buffer := some (openedBuffer u.now station table length) } } .ok
            .nothing))
      ∧ (∀ b : LoadBuffer, s.store.buffer = some b → b.owner ≠ station →
          (s.store.waitingLoad = none → step = .next { u with store := parked })
          ∧ (∀ w : WaitingLoad, s.store.waitingLoad = some w →
              (w.station = station → step = .next
                { u with
                  store := parked
                  tx := { s.tx with replies := s.tx.replies ++
                    [{ station := w.station, kind := 0x01, tag := w.tag, status := .busy, fields := []
                       head := false }] } })
              ∧ (w.station ≠ station → answered u .busy .nothing))))
    ∧ (s.store.buffer = none → exec (.loadInactivityTimeout e) s = .next u)
    ∧ ∀ b : LoadBuffer, s.store.buffer = some b →
      let m := max u.now b.deadline
      ∃ t : State, exec (.loadInactivityTimeout e) s = .next t
        ∧ (let freed : State :=
             { u with
               now := m
               store := { s.store with
                 buffer := none
                 head := if s.store.head = .answered .freeBuffer then .answered .nothing else s.store.head } }
           (s.store.waitingLoad = none → t = freed)
           ∧ ∀ w : WaitingLoad, s.store.waitingLoad = some w → freed.tookWaiting t w)

/-- LOAD DATA and LOAD END, served (R181, R182, R183): NOT OPEN from a station that does not own the buffer; LOAD DATA
writes its bytes at its offset, RANGE when they do not fit; LOAD END is refused CRC, BAD TABLE or STATE by the first
step that fails, no slot changed, and else the slot takes the image with its CRC and is VALID, its copy is retained, its
fault flag says whether that write failed, and the slots' conditions follow. Both restart the inactivity timer. A slot
table is pending while a cycle runs, else in use as at a boundary, beginning the first cycle with its frames (R66, R71,
R77). The apply points are those of R184; the checks are the image length (section 11.6), ranges, entries that differ or
agree, and the comparisons of R51, R70 and R102.

As a table is put in use: stations are fitted or not and take their classes (R1, R178); engines and actuators start
afresh, keeping the reports, or the angle, of a node they keep (R24, R52); nodes become ABSENT, couplings UNKNOWN, and a
poll cycle starts (R84, R103); the ceiling takes its new cap and a running rejoin timer its new length (R104); consumers
and tanks of another meter or gauge start afresh (R129); latches clear with table 10 (R148); and the tow inputs follow
their bindings (R95).

The model's choices: a k-factor counts only for a consumer present in both tables, an engine not present before keeps no
report, an actuator is SUSPENDED while its node is LOST, and an UNKNOWN node keeps its report age
(notes/assumptions/10.md); the first slot fires within the step (notes/assumptions/11.md); a rights byte or engine mask
above 15, a present or enabled byte above 1, and a sync gain above 16 without an engine are out of range
(notes/assumptions/19.md); a station not fitted keeps its class, an engine not present has setpoint 0, a tank without a
gauge no level (notes/assumptions/21.md); losses go in address order, a new poll interval is in use at once, and latches
stand through table 9 (notes/assumptions/22.md). -/
def Obligations.LoadsFillTheBufferAndAreChecked : Prop :=
  (∀ (s : State) (b : Bytes),
    let quiet := s.station.holder = none ∧ s.station.requester = none
    let atRest := ∀ (n : Fin 4) (e : EngineEntry), s.engine? n = some e →
      (s.engineAt n).gear = .neutral ∧ (s.engineAt n).setpoint = 16 * e.idle
    let factorsKept := ∀ (i : Fin 6) (o n : ConsumerEntry), s.consumer? i = some o → presentConsumer b i = some n →
      o.k = n.k ∨ ((s.consumerAt i).account.total = 0 ∧ (s.consumerAt i).account.remainder = 0)
    (s.applyPoint 0 b = true ↔ quiet)
    ∧ (∀ id ∈ ([1, 2, 3] : List (Fin 13)), s.applyPoint id b = true ↔ quiet ∧ atRest)
    ∧ (∀ id ∈ ([5, 6] : List (Fin 13)), s.applyPoint id b = true ↔ s.coup.mode = .normal)
    ∧ (s.applyPoint 8 b = true ↔ s.transfer.state = .idle ∧ factorsKept)
    ∧ (s.applyPoint 9 b = true ↔ s.transfer.state = .idle)
    ∧ (∀ id ∈ ([4, 7, 10, 11, 12] : List (Fin 13)), s.applyPoint id b = true)
    ∧ (∀ id : Fin 13, s.tableChecks id b = true → some b.length =
        [1 + 3 * byteAt b 0, 61, 268, 84, 2 + 6 * byteAt b 1, 1 + 5 * byteAt b 0, 1 + 6 * byteAt b 0, 13, 270,
          18 + 2 * byteAt b 0, 270, 160, 6][id.val]?)
    ∧ (s.tableChecks 0 b = true ↔
        b.length = 1 + 3 * byteAt b 0 ∧ 1 ≤ byteAt b 0 ∧ byteAt b 0 ≤ 4
          ∧ (∀ i : Nat, i < byteAt b 0 → 1 ≤ byteAt b (1 + 3 * i) ∧ byteAt b (1 + 3 * i) ≤ 4
              ∧ byteAt b (2 + 3 * i) ≤ 1 ∧ byteAt b (3 + 3 * i) ≤ 15)
          ∧ (∀ i j : Nat, i < j → j < byteAt b 0 → byteAt b (1 + 3 * i) ≠ byteAt b (1 + 3 * j))
          ∧ ∃ i : Nat, i < byteAt b 0 ∧ bitOf (byteAt b (3 + 3 * i)) 3 = true)
    ∧ (s.tableChecks 1 b = true ↔
        b.length = 61 ∧ engineTableFits b ∧ (∀ x : Bytes, s.tableImage 3 = some x → steeringFitsEngines x b)
          ∧ ∀ x : Bytes, s.slotsToCompare x → slotsFitEngines x b)
    ∧ (s.tableChecks 2 b = true ↔ b.length = 268 ∧ curveTableFits b)
    ∧ (s.tableChecks 3 b = true ↔
        b.length = 84 ∧ steeringTableFits b ∧ (∀ x : Bytes, s.tableImage 1 = some x → steeringFitsEngines b x)
          ∧ ∀ x : Bytes, s.slotsToCompare x → slotsFitSteering x b)
    ∧ (s.tableChecks 4 b = true ↔
        b.length = 2 + 6 * byteAt b 1 ∧ slotTableFits b
          ∧ (∀ x : Bytes, s.tableImage 1 = some x → slotsFitEngines b x)
          ∧ ∀ x : Bytes, s.tableImage 3 = some x → slotsFitSteering b x)
    ∧ (s.tableChecks 5 b = true ↔
        b.length = 1 + 5 * byteAt b 0 ∧ makeUpTableFits b
          ∧ ∀ x : Bytes, s.tableImage 6 = some x → towTablesAgree b x)
    ∧ (s.tableChecks 6 b = true ↔
        b.length = 1 + 6 * byteAt b 0 ∧ couplingTableFits b
          ∧ ∀ x : Bytes, s.tableImage 5 = some x → towTablesAgree x b)
    ∧ (s.tableChecks 8 b = true ↔ b.length = 270 ∧ consumerTableFits b ∧ tankTableFits b)
    ∧ (s.tableChecks 9 b = true ↔ b.length = 18 + 2 * byteAt b 0 ∧ transferTableFits b)
    ∧ (s.tableChecks 10 b = true ↔ b.length = 270 ∧ reactionTableFits b)
    ∧ (s.tableChecks 11 b = true ↔ b.length = 160 ∧ profileTableFits b)
    ∧ (s.tableChecks 7 b = true ↔
        b.length = 13 ∧ 500 ≤ u16 b 0 ∧ u16 b 0 ≤ 950 ∧ u16 b 0 + 10 ≤ u16 b 2 ∧ u16 b 2 ≤ 1000 ∧ u16 b 4 ≤ 1000
          ∧ 10 ≤ u16 b 6 ∧ u16 b 6 ≤ 500 ∧ u16 b 8 ≤ 1000 ∧ 1 ≤ byteAt b 10 ∧ byteAt b 10 ≤ 16
          ∧ 60 ≤ u16 b 11 ∧ u16 b 11 ≤ 1800)
    ∧ (s.tableChecks 12 b = true ↔
        b.length = 6 ∧ 100 ≤ u16 b 0 ∧ u16 b 0 ≤ 2000 ∧ u16 b 0 % 50 = 0 ∧ u16 b 2 ≤ 1000 ∧ byteAt b 4 ≤ 2
          ∧ byteAt b 5 ≤ 2))
  ∧ (∀ (s : State) (b : Bytes),
    let x (id : Fin 13) : State := (s.takeImage id b).applyTable s id
    (let t := x 0
     (∀ n : Fin 4,
        (∀ e : StationEntry, (parseStations b).find? (fun e => e.address = n.val + 1) = some e →
          t.stationAt n =
              { s.stationAt n with fitted := true, cls := if e.cls = 0 then .wheelhouse else .engineRoom }
            ∧ t.sourceOf (1 + n.val) = s.sourceOf (1 + n.val))
        ∧ ((∀ e ∈ parseStations b, e.address ≠ n.val + 1) →
          t.stationAt n = { cls := (s.stationAt n).cls, fitted := false } ∧ t.sourceOf (1 + n.val) = false))
     ∧ t.station = { s.station with stations := t.station.stations }
     ∧ s.condsBut t [1, 2, 3, 4] ∧ s.sameBut t [.station, .cond, .store])
    ∧ (let t := x 1
       (∀ n : Fin 4,
          let g := s.engineAt n
          let blank (idle : Nat) : Engine := { setpoint := 16 * idle, ageFrom := s.now }
          (presentEngine b n = none → t.engineAt n = blank 0
            ∧ t.sourceOf (7 + n.val) = false ∧ t.sourceOf (15 + n.val) = false)
          ∧ (∀ e : EngineEntry, presentEngine b n = some e →
              (∀ o : EngineEntry, s.engine? n = some o → o.node = e.node →
                t.engineAt n = { blank e.idle with
                  rpm := g.rpm, confirmedGear := g.confirmedGear, flags := g.flags, standing := g.standing
                  fresh := g.fresh, ageFrom := g.ageFrom })
              ∧ ((∀ o : EngineEntry, s.engine? n = some o → o.node ≠ e.node) → t.engineAt n = blank e.idle)
              ∧ t.sourceOf (7 + n.val) = decide ((t.engineAt n).standing = .lost)
              ∧ t.sourceOf (15 + n.val) = (t.engineAt n).flags.any (·.local_))
          ∧ t.prop.sync[n.val] = false ∧ t.sourceOf (11 + n.val) = false)
       ∧ t.sourceOf 19 = false ∧ t.feedConditions
       ∧ s.condsBut t [7, 8, 9, 10, 11, 12, 13, 14, 15, 16, 17, 18, 19, 38, 39] ∧ s.sameBut t [.prop, .cond, .store])
    ∧ (let t := x 3
       (∀ i : Fin 7,
          let a := t.actuatorAt i
          let reported := match presentActuator b i, s.actuator? i with
            | some e, some o => if o.node = e.node then (s.actuatorAt i).reported else none
            | _, _ => none
          let limit : Int := match presentActuator b i with
            | none => 0
            | some e => e.limit
          a.reported = reported ∧ a.target = 0
          ∧ a.commanded = (match reported with
            | none => 0
            | some angle => max (-limit) (min limit angle))
          ∧ a.fault = false ∧ a.frozen = none ∧ a.outStart = none ∧ a.inStart = none ∧ a.lastComputation = none
          ∧ (i ≠ bowIx → (a.standing = .active ↔ reported ≠ none ∧
              ∀ e : SteerEntry, presentActuator b i = some e → s.machStateOf e.node ≠ .lost))
          ∧ t.sourceOf (20 + i.val) = false)
       ∧ (∀ e : SteerEntry, presentActuator b bowIx = some e →
          let a := t.actuatorAt bowIx
          (a.usable = true ↔ s.bowReady e) ∧ (t.sourceOf 27 = true ↔ ¬ s.bowReady e)
          ∧ (a.standing = .active ↔ a.reported ≠ none ∧ s.bowReady e))
       ∧ (presentActuator b bowIx = none → t.sourceOf 27 = false)
       ∧ s.condsBut t [20, 21, 22, 23, 24, 25, 26, 27] ∧ s.sameBut t [.steer, .cond, .store])
    ∧ (∀ id ∈ ([5, 6] : List (Fin 13)), s.coup.mode = .normal →
        let t := x id
        t.coup.records = t.couplingEntries.map (fun _ => {}) ∧ t.coup.mode = .normal
        ∧ t.towLine.nodes = t.pollList.map (fun _ => {}) ∧ t.towLine.restartPending = false
        ∧ (∀ code ∈ [29, 30, 31, 32, 33, 36, 37], t.sourceOf code = false)
        ∧ (t.tableImage 5 = none → t.coup.startLimit = true ∧ t.coup.cTow = min s.coup.cTow t.cCap
            ∧ t.towLine.window = none ∧ t.sent = s.sent)
        ∧ t.sourceOf 34 = decide (t.towLimits.blind ≤ t.blindCount)
        ∧ t.sourceOf 27 = (s.actuator? bowIx).isSome
        ∧ (∀ i : Fin 7, i ≠ bowIx → t.actuatorAt i = s.actuatorAt i)
        ∧ (let bow := { s.actuatorAt bowIx with
             usable := false, standing := .suspended, outStart := none, inStart := none }
           t.actuatorAt bowIx =
             if t.isBowNode 0 = true then
               { bow with target := 0, commanded := 0, frozen := none, lastComputation := some s.now }
             else bow)
        ∧ (t.tableImage 5 ≠ none → t.towLine.running = true ∧ t.towLine.cycleStart = s.now
            ∧ (t.pollList ≠ [] → t.coup.startLimit = true ∧ t.coup.cTow = min s.coup.cTow t.cCap
                ∧ t.towLine.complete = false ∧ t.towLine.pos = 1
                ∧ t.towLine.window = some { entry := 0, closeAt := s.now + ms 4 })
            ∧ (∀ (first : MakeUpEntry) (rest : List MakeUpEntry), t.pollList = first :: rest →
                t.sent = { s.sent with tow := t.pollFrame 0 first :: s.sent.tow })
            ∧ (t.pollList = [] → t.sent = s.sent ∧ t.coup.startLimit = false ∧ t.towLine.complete = true
                ∧ t.towLine.window = none ∧ t.towLine.nextDue = s.now + ms t.pollInterval))
        ∧ s.condsBut t [27, 29, 30, 31, 32, 33, 34, 36, 37]
        ∧ s.sameBut t [.steer, .towLine, .coup, .cond, .store, .sent])
    ∧ (let t := x 7
       t.coup = { s.coup with cTow := min s.coup.cTow t.cCap, rejoinStart := t.coup.rejoinStart }
       ∧ (s.coup.rejoinStart = none → t.coup.rejoinStart = none ∧ t.sourceOf 35 = s.sourceOf 35)
       ∧ (∀ start : Moment, s.coup.rejoinStart = some start →
           (s.now < start + sec (u16 b 11) → t.coup.rejoinStart = some start ∧ t.sourceOf 35 = s.sourceOf 35)
           ∧ (start + sec (u16 b 11) ≤ s.now → t.coup.rejoinStart = none ∧ t.sourceOf 35 = true))
       ∧ t.sourceOf 34 = decide (byteAt b 10 ≤ t.blindCount)
       ∧ s.condsBut t [34, 35] ∧ s.sameBut t [.coup, .cond, .store])
    ∧ (let t := x 8
       (∀ i : Fin 6,
          let meter (c : Option ConsumerEntry) : Option (Nat × Nat) := c.map fun c => (c.node, c.entry)
          t.consumerAt i =
            if meter (s.consumer? i) = meter (presentConsumer b i) then s.consumerAt i
            else { s.consumerAt i with baseValid := false, held := none, gap := 0, meterFault := false })
       ∧ (∀ i : Fin 12,
          let gauge (c : Option TankEntry) : Option (Nat × Nat) :=
            c.bind fun c => if c.gaugeNode = 0 then none else some (c.gaugeNode, c.gaugeEntry)
          let old := s.tankRec i
          (gauge (presentTank b i) = none → t.tankRec i = { book := old.book })
          ∧ (∀ g : Nat × Nat, gauge (presentTank b i) = some g →
              (gauge (s.tank? i) = some g → t.tankRec i = { old with runStart := none })
              ∧ (gauge (s.tank? i) ≠ some g → t.tankRec i =
                  { old with standing := .noReading, level := none, levelAt := none, lastWasLevel := false
                             runStart := none })))
       ∧ t.sourceOf 40 = (List.finRange 12).any fun i => (presentTank b i).isSome && (t.tankRec i).discrepancy
       ∧ t.sourceOf 41 = (List.finRange 6).any fun i => (presentConsumer b i).isSome && (t.consumerAt i).meterFault
       ∧ t.feedConditions ∧ t.fuel.saveDue = s.fuel.saveDue
       ∧ s.condsBut t [38, 39, 40, 41] ∧ s.sameBut t [.fuel, .cond, .store])
    ∧ (let t := x 9
       t.transfer = { s.transfer with rules := s.transfer.rules.map fun y =>
         { y with latch := false, waiting := false } }
       ∧ s.sameBut t [.transfer, .store])
    ∧ (let t := x 11
       t.sourceOf 36 = t.towInput 1 ∧ t.sourceOf 37 = t.towInput 2
       ∧ s.condsBut t [36, 37] ∧ s.sameBut t [.cond, .store])
    ∧ (∀ id ∈ ([2, 10, 12] : List (Fin 13)), x id = s.takeImage id b)
    ∧ ∀ id : Fin 13, id ≠ 4 →
      (∀ j : Fin 13, (x id).slot j = if j = id then
        { s.slot j with image := b, crc := crc16 b, valid := true } else s.slot j)
      ∧ (x id).store.retained = s.store.retained ∧ (x id).store.buffer = s.store.buffer
      ∧ (x id).store.queue = (if id = 0 then s.store.queue.take 1 ++ (s.store.queue.drop 1).filter
          (fun q => ((x 0).fittedStation q.station).isSome) else s.store.queue)
      ∧ (x id).store.waitingLoad = (if id = 0 then s.store.waitingLoad.filter
          (fun w => ((x 0).fittedStation w.station).isSome) else s.store.waitingLoad))
  ∧ ∀ (e : Env) (s : State) (station tag : Nat) (fields : Bytes),
    let u := s.enter e
    (∀ r : MgmtRequest, r = { station := station, kind := 0x02, tag := tag, fields := fields } →
      s.canServe r none →
      let offset := u16 fields 0
      let data := fields.drop 2
      let answered (x : State) (status : Status) : Prop :=
        ∃ t : State, exec (.loadData e station tag fields) s = .next t ∧ x.answered t r status [] .nothing
      ((∀ b : LoadBuffer, s.store.buffer = some b → b.owner ≠ station) → answered u .notOpen)
      ∧ ∀ b : LoadBuffer, s.store.buffer = some b → b.owner = station →
        let holding (bytes : Bytes) : State :=
          { u with store := { s.store with
            buffer := some { b with bytes := bytes, deadline := u.now + sec 5 } } }
        (b.bytes.length < offset + data.length → answered (holding b.bytes) .range)
        ∧ (offset + data.length ≤ b.bytes.length →
            ∃ bytes : Bytes, answered (holding bytes) .ok ∧ bytes.length = b.bytes.length
              ∧ ∀ i : Nat, bytes[i]? =
                  if offset ≤ i ∧ i < offset + data.length then data[i - offset]? else b.bytes[i]?))
    ∧ ∀ r : MgmtRequest, r = { station := station, kind := 0x03, tag := tag, fields := fields } →
      s.canServe r none →
      let crc := u16 fields 0
      let step := exec (.loadEnd e station tag fields) s
      ((∀ b : LoadBuffer, s.store.buffer = some b → b.owner ≠ station) →
        ∃ t : State, step = .next t ∧ u.answered t r .notOpen [] .nothing)
      ∧ ∀ (b : LoadBuffer) (id : Fin 13), s.store.buffer = some b → b.owner = station →
        b.table = id.val + 1 →
        let kept : State :=
          { u with store := { s.store with buffer := some { b with deadline := u.now + sec 5 } } }
        let refused (status : Status) : Prop :=
          ∃ t : State, step = .next t ∧ kept.answered t r status [] .freeBuffer
        (crc16 b.bytes ≠ crc → refused .crc)
        ∧ (crc16 b.bytes = crc →
            (s.tableChecks id b.bytes = false → refused .badTable)
            ∧ (s.tableChecks id b.bytes = true →
                (s.applyPoint id b.bytes = false → refused .state)
                ∧ (s.applyPoint id b.bytes = true →
                    ∃ t : State, step = .next t
                      ∧ t.store.buffer = some { b with deadline := u.now + sec 5 }
                      ∧ t.store.head = .answered .freeBuffer ∧ s.repliedOk t r []
                      ∧ (∀ j : Fin 13, j ≠ id → t.slot j = s.slot j
                          ∧ t.store.retained.tables[j.val] = s.store.retained.tables[j.val])
                      ∧ t.store.retained.tables[id.val] =
                          some { image := b.bytes, crc := crc
                                 damaged := decide (Region.table (id.val + 1) ∈ e.readBack.failed) }
                      ∧ (t.slot id).fault = decide (Region.table (id.val + 1) ∈ e.readBack.failed)
                      ∧ (let stored : State := { kept with store := kept.store.wroteTable e.readBack id b.bytes }
                         let taken := stored.slotTableTaken b.bytes
                         let left (x : State) : Prop :=
                           t.store = { x.store with slots := t.store.slots, head := .answered .freeBuffer }
                         (id ≠ 4 →
                           let x := (stored.takeImage id b.bytes).applyTable stored id
                           left x ∧ x.condsBut t [44, 45] ∧ x.sameBut t [.cond, .store, .tx])
                         ∧ (id = 4 → s.mach.running = true →
                           left stored ∧ t.mach = { s.mach with pendingTable := some b.bytes }
                             ∧ (t.slot 4).image = (s.slot 4).image ∧ (t.slot 4).valid = (s.slot 4).valid
                             ∧ s.condsBut t [44, 45] ∧ u.sameBut t [.mach, .cond, .store, .tx])
                         ∧ (id = 4 → s.mach.running = false →
                           (∃ x : State, taken.cycleBegins x b.bytes 0 ∧ left x ∧ x.condsBut t [44, 45]
                             ∧ x.sameBut t [.cond, .store, .tx])
                             ∧ taken.condsBut t [11, 12, 13, 14, 19, 44, 45]
                             ∧ taken.sameBut t [.prop, .steer, .mach, .cond, .store, .tx, .sent]))
                      ∧ (id ≠ 4 ∨ s.mach.running = false →
                          (t.slot id).image = b.bytes ∧ (t.slot id).crc = crc ∧ (t.slot id).valid = true)
                      ∧ t.sourceOf 44 = t.store.slots.any (·.fault)
                      ∧ (t.sourceOf 45 = false ↔
                          (t.slot 1).valid = true ∧ (t.slot 2).valid = true ∧ (t.slot 4).valid = true))))

/-! ## The station line's sending side (chapter 11) -/

/-- FOLLOW_UP_FRAME, STATION_LINE_IDLE_GAP and TRANSMIT_READBACK_MISMATCH (R19, R193). A follow-up frame falls due
every 100 ms on its own schedule and goes at once on a free line. At an idle gap one frame leaves: the one to be
sent once more; or else the follow-up frame, or the reply composed first, when only one of the two waits, and either
of them when both do. A head request whose reply has been sent leaves the queue; after a LOAD END's reply the buffer
is free, and after that and a refused BEGIN of the buffer's owner a BEGIN that waits is taken against the free
buffer (R180, R182, R183). A frame that does not read back is sent once more, and the second time it is dropped and
counted. That the frame to be sent once more goes first, that a reply counts as sent when it begins to leave, and
that a mismatch takes the frame out of the output record are the model's choices (notes/assumptions/7.md), and so is
that a control restart becomes due at that moment (notes/assumptions/6.md).

The follow-up frame carries the 24 bytes of section 11.3, as the part stands when it is composed (R19, R20), with
each engine's state by the first line of R30's table that holds; a reply carries its request's kind and tag, its
status and, if that is OK, its fields. -/
def Obligations.StationFramesLeaveAtIdleGaps : Prop :=
  (∀ s : State,
    let f := s.followUpFrame
    let v := s.station.inUse
    let address (x : Option (Fin 4)) : Int := match x with
      | none => 0
      | some n => n.val + 1
    let gear (n : Fin 4) : Int :=
      if s.engine? n = none then 0
      else match (s.engineAt n).gear with
        | .neutral => 0
        | .ahead => 1
        | .astern => 2
        | .shifting => 3
    let engine (n : Fin 4) : Int :=
      let g := s.engineAt n
      if s.engine? n = none then 0
      else if g.standing = .noReport then 1
      else if g.standing = .lost then 2
      else if g.gearFault = true then 3
      else if g.flags.any (·.local_) = true then 4
      else if g.flags.any (·.running) = false then 5
      else if g.flags.any (·.alarm) = true then 6
      else if g.member = .trimmed then 7
      else 8
    let mode : Int := match s.coup.mode with
      | .normal => 0
      | .splitting => 1
      | .split => 2
      | .rejoining => 3
    let run : Int := match s.transfer.state with
      | .idle => 0
      | .starting => 1
      | .running => 2
      | .trailer => 3
    let result (n : Fin 4) : Int := (s.stationAt n).result.code
    f.dst = 0xFF ∧ f.src = s.ownAddress ∧ f.kind = 0x04 ∧ f.payload.length = 24
    ∧ carries f.payload
        ([(1, address s.station.holder), (1, address s.station.requester)]
          ++ (List.finRange 4).map (fun c => (2, v.levers[c.val]))
          ++ [(2, v.steering), (2, v.flanking), (1, gear 0 + 4 * gear 1 + 16 * gear 2 + 64 * gear 3),
            (1, 16 * engine 0 + engine 1), (1, 16 * engine 2 + engine 3), (2, (s.coup.cTow : Int)),
            (1, mode + 16 * run), (1, (s.summaryCode : Int)), (1, (s.summaryCount : Int)),
            (1, 16 * result 0 + result 1), (1, 16 * result 2 + result 3)]))
  ∧ (∀ (own : Nat) (r : Reply),
    (r.frame own).dst = r.station ∧ (r.frame own).src = own ∧ (r.frame own).kind = 0x03
      ∧ (r.frame own).payload =
        [byte r.kind, byte r.tag,
          byte (match r.status with
            | .ok => 0
            | .busy => 1
            | .rights => 2
            | .notOpen => 3
            | .crc => 4
            | .badTable => 5
            | .state => 6
            | .range => 7
            | .permission => 8
            | .timeout => 9
            | .unknown => 10)] ++ (if r.status = .ok then r.fields else []))
  ∧ ∀ (e : Env) (s : State),
    let u := s.enter e
    let gap := exec (.stationLineIdleGap e) s
    let followUpLeft (x : State) (t : State) : Prop :=
      t = { x with
        tx := { x.tx with
          followUps := x.tx.followUps - 1, last := some { frame := x.followUpFrame, second := false } }
        sent := { x.sent with station := x.followUpFrame :: x.sent.station } }
    let replyLeft (x : State) (t : State) (r : Reply) (rest : List Reply) : Prop :=
      let f : Frame :=
        { dst := r.station, src := s.ownAddress, kind := 0x03
          payload := (r.frame s.ownAddress).payload }
      let gone : State :=
        { x with
          tx := { x.tx with replies := rest, last := some { frame := f, second := false } }
          sent := { x.sent with station := f :: x.sent.station } }
      (r.head = false → t = gone)
      ∧ (r.head = true → s.store.head = .answered .nothing →
          t = { gone with store := { s.store with queue := s.store.queue.tail, head := .waiting } })
      ∧ (r.head = true → s.store.head = .answered .restart →
          t = { gone with store := { s.store with
            queue := s.store.queue.tail, head := .waiting, restartDue := true } })
      ∧ (∀ after : AfterReply, after = .freeBuffer ∨ after = .takeWaiting → r.head = true →
          s.store.head = .answered after →
          let emptied : State :=
            { gone with store := { s.store with
                queue := s.store.queue.tail, head := .waiting
                buffer := if after = .freeBuffer then none else s.store.buffer } }
          (s.store.waitingLoad = none → t = emptied)
          ∧ ∀ w : WaitingLoad, s.store.waitingLoad = some w → emptied.tookWaiting t w)
    (∃ t : State, exec (.followUpFrame e false) s = .next t
      ∧ t = { u with
          now := max u.now s.station.followUpNext
          station := { s.station with followUpNext := s.station.followUpNext + ms 100 }
          tx := { s.tx with followUps := s.tx.followUps + 1 } }
      ∧ exec (.followUpFrame e true) s = exec (.stationLineIdleGap { e with time := t.now }) t)
    ∧ (∀ f : Frame, s.tx.retry = some f → gap = .next
        { u with
          tx := { s.tx with retry := none, last := some { frame := f, second := true } }
          sent := { s.sent with station := f :: s.sent.station } })
    ∧ (s.tx.retry = none →
        (s.tx.followUps = 0 → s.tx.replies = [] → gap = .next u)
        ∧ (s.tx.followUps ≠ 0 → s.tx.replies = [] → ∃ t : State, gap = .next t ∧ followUpLeft u t)
        ∧ (∀ (r : Reply) (rest : List Reply), s.tx.replies = r :: rest →
            (s.tx.followUps = 0 → ∃ t : State, gap = .next t ∧ replyLeft u t r rest)
            ∧ (s.tx.followUps ≠ 0 →
                let drawn : State := { u with draws := s.draws + 1 }
                ∃ t : State, gap = .next t ∧ (followUpLeft drawn t ∨ replyLeft drawn t r rest))))
    ∧ (s.tx.last = none → exec (.transmitReadbackMismatch e) s = .next u)
    ∧ ∀ f : SentFrame, s.tx.last = some f →
      exec (.transmitReadbackMismatch e) s = .next
        { u with
          sent := { s.sent with station := s.sent.station.tail }
          tx := { s.tx with last := none, retry := if f.second then s.tx.retry else some f.frame }
          lines := if f.second then
              { s.lines with stationTransmit := min 65535 (s.lines.stationTransmit + 1) }
            else s.lines }
end

