-- ==== Sys2Proof/Laws/State.lean ====
section
/-! SUPPORT. What each named update of the State leaves in each field, and the fields of a State one by
one. Every lemma here holds by unfolding alone. -/

namespace Sys2Proof.Machine

/-! ## `withNow` -/

@[simp] theorem State.withNow_now (s : State) (x : Moment) : (s.withNow x).now = x := rfl
@[simp] theorem State.withNow_epoch (s : State) (x : Moment) : (s.withNow x).epoch = s.epoch := rfl
@[simp] theorem State.withNow_straps (s : State) (x : Moment) : (s.withNow x).straps = s.straps := rfl
@[simp] theorem State.withNow_station (s : State) (x : Moment) : (s.withNow x).station = s.station := rfl
@[simp] theorem State.withNow_prop (s : State) (x : Moment) : (s.withNow x).prop = s.prop := rfl
@[simp] theorem State.withNow_steer (s : State) (x : Moment) : (s.withNow x).steer = s.steer := rfl
@[simp] theorem State.withNow_mach (s : State) (x : Moment) : (s.withNow x).mach = s.mach := rfl
@[simp] theorem State.withNow_towLine (s : State) (x : Moment) : (s.withNow x).towLine = s.towLine := rfl
@[simp] theorem State.withNow_coup (s : State) (x : Moment) : (s.withNow x).coup = s.coup := rfl
@[simp] theorem State.withNow_fuel (s : State) (x : Moment) : (s.withNow x).fuel = s.fuel := rfl
@[simp] theorem State.withNow_transfer (s : State) (x : Moment) : (s.withNow x).transfer = s.transfer := rfl
@[simp] theorem State.withNow_cond (s : State) (x : Moment) : (s.withNow x).cond = s.cond := rfl
@[simp] theorem State.withNow_store (s : State) (x : Moment) : (s.withNow x).store = s.store := rfl
@[simp] theorem State.withNow_lines (s : State) (x : Moment) : (s.withNow x).lines = s.lines := rfl
@[simp] theorem State.withNow_tx (s : State) (x : Moment) : (s.withNow x).tx = s.tx := rfl
@[simp] theorem State.withNow_sent (s : State) (x : Moment) : (s.withNow x).sent = s.sent := rfl
@[simp] theorem State.withNow_readBack (s : State) (x : Moment) : (s.withNow x).readBack = s.readBack := rfl
@[simp] theorem State.withNow_draws (s : State) (x : Moment) : (s.withNow x).draws = s.draws := rfl
@[simp] theorem State.withNow_pending (s : State) (x : Moment) : (s.withNow x).pending = s.pending := rfl

/-! ## `withEpoch` -/

@[simp] theorem State.withEpoch_now (s : State) (x : Moment) : (s.withEpoch x).now = s.now := rfl
@[simp] theorem State.withEpoch_epoch (s : State) (x : Moment) : (s.withEpoch x).epoch = x := rfl
@[simp] theorem State.withEpoch_straps (s : State) (x : Moment) : (s.withEpoch x).straps = s.straps := rfl
@[simp] theorem State.withEpoch_station (s : State) (x : Moment) : (s.withEpoch x).station = s.station := rfl
@[simp] theorem State.withEpoch_prop (s : State) (x : Moment) : (s.withEpoch x).prop = s.prop := rfl
@[simp] theorem State.withEpoch_steer (s : State) (x : Moment) : (s.withEpoch x).steer = s.steer := rfl
@[simp] theorem State.withEpoch_mach (s : State) (x : Moment) : (s.withEpoch x).mach = s.mach := rfl
@[simp] theorem State.withEpoch_towLine (s : State) (x : Moment) : (s.withEpoch x).towLine = s.towLine := rfl
@[simp] theorem State.withEpoch_coup (s : State) (x : Moment) : (s.withEpoch x).coup = s.coup := rfl
@[simp] theorem State.withEpoch_fuel (s : State) (x : Moment) : (s.withEpoch x).fuel = s.fuel := rfl
@[simp] theorem State.withEpoch_transfer (s : State) (x : Moment) : (s.withEpoch x).transfer = s.transfer := rfl
@[simp] theorem State.withEpoch_cond (s : State) (x : Moment) : (s.withEpoch x).cond = s.cond := rfl
@[simp] theorem State.withEpoch_store (s : State) (x : Moment) : (s.withEpoch x).store = s.store := rfl
@[simp] theorem State.withEpoch_lines (s : State) (x : Moment) : (s.withEpoch x).lines = s.lines := rfl
@[simp] theorem State.withEpoch_tx (s : State) (x : Moment) : (s.withEpoch x).tx = s.tx := rfl
@[simp] theorem State.withEpoch_sent (s : State) (x : Moment) : (s.withEpoch x).sent = s.sent := rfl
@[simp] theorem State.withEpoch_readBack (s : State) (x : Moment) : (s.withEpoch x).readBack = s.readBack := rfl
@[simp] theorem State.withEpoch_draws (s : State) (x : Moment) : (s.withEpoch x).draws = s.draws := rfl
@[simp] theorem State.withEpoch_pending (s : State) (x : Moment) : (s.withEpoch x).pending = s.pending := rfl

/-! ## `withStraps` -/

@[simp] theorem State.withStraps_now (s : State) (x : Straps) : (s.withStraps x).now = s.now := rfl
@[simp] theorem State.withStraps_epoch (s : State) (x : Straps) : (s.withStraps x).epoch = s.epoch := rfl
@[simp] theorem State.withStraps_straps (s : State) (x : Straps) : (s.withStraps x).straps = x := rfl
@[simp] theorem State.withStraps_station (s : State) (x : Straps) : (s.withStraps x).station = s.station := rfl
@[simp] theorem State.withStraps_prop (s : State) (x : Straps) : (s.withStraps x).prop = s.prop := rfl
@[simp] theorem State.withStraps_steer (s : State) (x : Straps) : (s.withStraps x).steer = s.steer := rfl
@[simp] theorem State.withStraps_mach (s : State) (x : Straps) : (s.withStraps x).mach = s.mach := rfl
@[simp] theorem State.withStraps_towLine (s : State) (x : Straps) : (s.withStraps x).towLine = s.towLine := rfl
@[simp] theorem State.withStraps_coup (s : State) (x : Straps) : (s.withStraps x).coup = s.coup := rfl
@[simp] theorem State.withStraps_fuel (s : State) (x : Straps) : (s.withStraps x).fuel = s.fuel := rfl
@[simp] theorem State.withStraps_transfer (s : State) (x : Straps) : (s.withStraps x).transfer = s.transfer := rfl
@[simp] theorem State.withStraps_cond (s : State) (x : Straps) : (s.withStraps x).cond = s.cond := rfl
@[simp] theorem State.withStraps_store (s : State) (x : Straps) : (s.withStraps x).store = s.store := rfl
@[simp] theorem State.withStraps_lines (s : State) (x : Straps) : (s.withStraps x).lines = s.lines := rfl
@[simp] theorem State.withStraps_tx (s : State) (x : Straps) : (s.withStraps x).tx = s.tx := rfl
@[simp] theorem State.withStraps_sent (s : State) (x : Straps) : (s.withStraps x).sent = s.sent := rfl
@[simp] theorem State.withStraps_readBack (s : State) (x : Straps) : (s.withStraps x).readBack = s.readBack := rfl
@[simp] theorem State.withStraps_draws (s : State) (x : Straps) : (s.withStraps x).draws = s.draws := rfl
@[simp] theorem State.withStraps_pending (s : State) (x : Straps) : (s.withStraps x).pending = s.pending := rfl

/-! ## `withStation` -/

@[simp] theorem State.withStation_now (s : State) (x : StationUnit) : (s.withStation x).now = s.now := rfl
@[simp] theorem State.withStation_epoch (s : State) (x : StationUnit) : (s.withStation x).epoch = s.epoch := rfl
@[simp] theorem State.withStation_straps (s : State) (x : StationUnit) : (s.withStation x).straps = s.straps := rfl
@[simp] theorem State.withStation_station (s : State) (x : StationUnit) : (s.withStation x).station = x := rfl
@[simp] theorem State.withStation_prop (s : State) (x : StationUnit) : (s.withStation x).prop = s.prop := rfl
@[simp] theorem State.withStation_steer (s : State) (x : StationUnit) : (s.withStation x).steer = s.steer := rfl
@[simp] theorem State.withStation_mach (s : State) (x : StationUnit) : (s.withStation x).mach = s.mach := rfl
@[simp] theorem State.withStation_towLine (s : State) (x : StationUnit) : (s.withStation x).towLine = s.towLine := rfl
@[simp] theorem State.withStation_coup (s : State) (x : StationUnit) : (s.withStation x).coup = s.coup := rfl
@[simp] theorem State.withStation_fuel (s : State) (x : StationUnit) : (s.withStation x).fuel = s.fuel := rfl
@[simp] theorem State.withStation_transfer (s : State) (x : StationUnit) : (s.withStation x).transfer = s.transfer := rfl
@[simp] theorem State.withStation_cond (s : State) (x : StationUnit) : (s.withStation x).cond = s.cond := rfl
@[simp] theorem State.withStation_store (s : State) (x : StationUnit) : (s.withStation x).store = s.store := rfl
@[simp] theorem State.withStation_lines (s : State) (x : StationUnit) : (s.withStation x).lines = s.lines := rfl
@[simp] theorem State.withStation_tx (s : State) (x : StationUnit) : (s.withStation x).tx = s.tx := rfl
@[simp] theorem State.withStation_sent (s : State) (x : StationUnit) : (s.withStation x).sent = s.sent := rfl
@[simp] theorem State.withStation_readBack (s : State) (x : StationUnit) : (s.withStation x).readBack = s.readBack := rfl
@[simp] theorem State.withStation_draws (s : State) (x : StationUnit) : (s.withStation x).draws = s.draws := rfl
@[simp] theorem State.withStation_pending (s : State) (x : StationUnit) : (s.withStation x).pending = s.pending := rfl

/-! ## `withProp` -/

@[simp] theorem State.withProp_now (s : State) (x : PropUnit) : (s.withProp x).now = s.now := rfl
@[simp] theorem State.withProp_epoch (s : State) (x : PropUnit) : (s.withProp x).epoch = s.epoch := rfl
@[simp] theorem State.withProp_straps (s : State) (x : PropUnit) : (s.withProp x).straps = s.straps := rfl
@[simp] theorem State.withProp_station (s : State) (x : PropUnit) : (s.withProp x).station = s.station := rfl
@[simp] theorem State.withProp_prop (s : State) (x : PropUnit) : (s.withProp x).prop = x := rfl
@[simp] theorem State.withProp_steer (s : State) (x : PropUnit) : (s.withProp x).steer = s.steer := rfl
@[simp] theorem State.withProp_mach (s : State) (x : PropUnit) : (s.withProp x).mach = s.mach := rfl
@[simp] theorem State.withProp_towLine (s : State) (x : PropUnit) : (s.withProp x).towLine = s.towLine := rfl
@[simp] theorem State.withProp_coup (s : State) (x : PropUnit) : (s.withProp x).coup = s.coup := rfl
@[simp] theorem State.withProp_fuel (s : State) (x : PropUnit) : (s.withProp x).fuel = s.fuel := rfl
@[simp] theorem State.withProp_transfer (s : State) (x : PropUnit) : (s.withProp x).transfer = s.transfer := rfl
@[simp] theorem State.withProp_cond (s : State) (x : PropUnit) : (s.withProp x).cond = s.cond := rfl
@[simp] theorem State.withProp_store (s : State) (x : PropUnit) : (s.withProp x).store = s.store := rfl
@[simp] theorem State.withProp_lines (s : State) (x : PropUnit) : (s.withProp x).lines = s.lines := rfl
@[simp] theorem State.withProp_tx (s : State) (x : PropUnit) : (s.withProp x).tx = s.tx := rfl
@[simp] theorem State.withProp_sent (s : State) (x : PropUnit) : (s.withProp x).sent = s.sent := rfl
@[simp] theorem State.withProp_readBack (s : State) (x : PropUnit) : (s.withProp x).readBack = s.readBack := rfl
@[simp] theorem State.withProp_draws (s : State) (x : PropUnit) : (s.withProp x).draws = s.draws := rfl
@[simp] theorem State.withProp_pending (s : State) (x : PropUnit) : (s.withProp x).pending = s.pending := rfl

/-! ## `withSteer` -/

@[simp] theorem State.withSteer_now (s : State) (x : SteerUnit) : (s.withSteer x).now = s.now := rfl
@[simp] theorem State.withSteer_epoch (s : State) (x : SteerUnit) : (s.withSteer x).epoch = s.epoch := rfl
@[simp] theorem State.withSteer_straps (s : State) (x : SteerUnit) : (s.withSteer x).straps = s.straps := rfl
@[simp] theorem State.withSteer_station (s : State) (x : SteerUnit) : (s.withSteer x).station = s.station := rfl
@[simp] theorem State.withSteer_prop (s : State) (x : SteerUnit) : (s.withSteer x).prop = s.prop := rfl
@[simp] theorem State.withSteer_steer (s : State) (x : SteerUnit) : (s.withSteer x).steer = x := rfl
@[simp] theorem State.withSteer_mach (s : State) (x : SteerUnit) : (s.withSteer x).mach = s.mach := rfl
@[simp] theorem State.withSteer_towLine (s : State) (x : SteerUnit) : (s.withSteer x).towLine = s.towLine := rfl
@[simp] theorem State.withSteer_coup (s : State) (x : SteerUnit) : (s.withSteer x).coup = s.coup := rfl
@[simp] theorem State.withSteer_fuel (s : State) (x : SteerUnit) : (s.withSteer x).fuel = s.fuel := rfl
@[simp] theorem State.withSteer_transfer (s : State) (x : SteerUnit) : (s.withSteer x).transfer = s.transfer := rfl
@[simp] theorem State.withSteer_cond (s : State) (x : SteerUnit) : (s.withSteer x).cond = s.cond := rfl
@[simp] theorem State.withSteer_store (s : State) (x : SteerUnit) : (s.withSteer x).store = s.store := rfl
@[simp] theorem State.withSteer_lines (s : State) (x : SteerUnit) : (s.withSteer x).lines = s.lines := rfl
@[simp] theorem State.withSteer_tx (s : State) (x : SteerUnit) : (s.withSteer x).tx = s.tx := rfl
@[simp] theorem State.withSteer_sent (s : State) (x : SteerUnit) : (s.withSteer x).sent = s.sent := rfl
@[simp] theorem State.withSteer_readBack (s : State) (x : SteerUnit) : (s.withSteer x).readBack = s.readBack := rfl
@[simp] theorem State.withSteer_draws (s : State) (x : SteerUnit) : (s.withSteer x).draws = s.draws := rfl
@[simp] theorem State.withSteer_pending (s : State) (x : SteerUnit) : (s.withSteer x).pending = s.pending := rfl

/-! ## `withMach` -/

@[simp] theorem State.withMach_now (s : State) (x : Scheduler) : (s.withMach x).now = s.now := rfl
@[simp] theorem State.withMach_epoch (s : State) (x : Scheduler) : (s.withMach x).epoch = s.epoch := rfl
@[simp] theorem State.withMach_straps (s : State) (x : Scheduler) : (s.withMach x).straps = s.straps := rfl
@[simp] theorem State.withMach_station (s : State) (x : Scheduler) : (s.withMach x).station = s.station := rfl
@[simp] theorem State.withMach_prop (s : State) (x : Scheduler) : (s.withMach x).prop = s.prop := rfl
@[simp] theorem State.withMach_steer (s : State) (x : Scheduler) : (s.withMach x).steer = s.steer := rfl
@[simp] theorem State.withMach_mach (s : State) (x : Scheduler) : (s.withMach x).mach = x := rfl
@[simp] theorem State.withMach_towLine (s : State) (x : Scheduler) : (s.withMach x).towLine = s.towLine := rfl
@[simp] theorem State.withMach_coup (s : State) (x : Scheduler) : (s.withMach x).coup = s.coup := rfl
@[simp] theorem State.withMach_fuel (s : State) (x : Scheduler) : (s.withMach x).fuel = s.fuel := rfl
@[simp] theorem State.withMach_transfer (s : State) (x : Scheduler) : (s.withMach x).transfer = s.transfer := rfl
@[simp] theorem State.withMach_cond (s : State) (x : Scheduler) : (s.withMach x).cond = s.cond := rfl
@[simp] theorem State.withMach_store (s : State) (x : Scheduler) : (s.withMach x).store = s.store := rfl
@[simp] theorem State.withMach_lines (s : State) (x : Scheduler) : (s.withMach x).lines = s.lines := rfl
@[simp] theorem State.withMach_tx (s : State) (x : Scheduler) : (s.withMach x).tx = s.tx := rfl
@[simp] theorem State.withMach_sent (s : State) (x : Scheduler) : (s.withMach x).sent = s.sent := rfl
@[simp] theorem State.withMach_readBack (s : State) (x : Scheduler) : (s.withMach x).readBack = s.readBack := rfl
@[simp] theorem State.withMach_draws (s : State) (x : Scheduler) : (s.withMach x).draws = s.draws := rfl
@[simp] theorem State.withMach_pending (s : State) (x : Scheduler) : (s.withMach x).pending = s.pending := rfl

/-! ## `withTowLine` -/

@[simp] theorem State.withTowLine_now (s : State) (x : TowLine) : (s.withTowLine x).now = s.now := rfl
@[simp] theorem State.withTowLine_epoch (s : State) (x : TowLine) : (s.withTowLine x).epoch = s.epoch := rfl
@[simp] theorem State.withTowLine_straps (s : State) (x : TowLine) : (s.withTowLine x).straps = s.straps := rfl
@[simp] theorem State.withTowLine_station (s : State) (x : TowLine) : (s.withTowLine x).station = s.station := rfl
@[simp] theorem State.withTowLine_prop (s : State) (x : TowLine) : (s.withTowLine x).prop = s.prop := rfl
@[simp] theorem State.withTowLine_steer (s : State) (x : TowLine) : (s.withTowLine x).steer = s.steer := rfl
@[simp] theorem State.withTowLine_mach (s : State) (x : TowLine) : (s.withTowLine x).mach = s.mach := rfl
@[simp] theorem State.withTowLine_towLine (s : State) (x : TowLine) : (s.withTowLine x).towLine = x := rfl
@[simp] theorem State.withTowLine_coup (s : State) (x : TowLine) : (s.withTowLine x).coup = s.coup := rfl
@[simp] theorem State.withTowLine_fuel (s : State) (x : TowLine) : (s.withTowLine x).fuel = s.fuel := rfl
@[simp] theorem State.withTowLine_transfer (s : State) (x : TowLine) : (s.withTowLine x).transfer = s.transfer := rfl
@[simp] theorem State.withTowLine_cond (s : State) (x : TowLine) : (s.withTowLine x).cond = s.cond := rfl
@[simp] theorem State.withTowLine_store (s : State) (x : TowLine) : (s.withTowLine x).store = s.store := rfl
@[simp] theorem State.withTowLine_lines (s : State) (x : TowLine) : (s.withTowLine x).lines = s.lines := rfl
@[simp] theorem State.withTowLine_tx (s : State) (x : TowLine) : (s.withTowLine x).tx = s.tx := rfl
@[simp] theorem State.withTowLine_sent (s : State) (x : TowLine) : (s.withTowLine x).sent = s.sent := rfl
@[simp] theorem State.withTowLine_readBack (s : State) (x : TowLine) : (s.withTowLine x).readBack = s.readBack := rfl
@[simp] theorem State.withTowLine_draws (s : State) (x : TowLine) : (s.withTowLine x).draws = s.draws := rfl
@[simp] theorem State.withTowLine_pending (s : State) (x : TowLine) : (s.withTowLine x).pending = s.pending := rfl

/-! ## `withCoup` -/

@[simp] theorem State.withCoup_now (s : State) (x : CouplingUnit) : (s.withCoup x).now = s.now := rfl
@[simp] theorem State.withCoup_epoch (s : State) (x : CouplingUnit) : (s.withCoup x).epoch = s.epoch := rfl
@[simp] theorem State.withCoup_straps (s : State) (x : CouplingUnit) : (s.withCoup x).straps = s.straps := rfl
@[simp] theorem State.withCoup_station (s : State) (x : CouplingUnit) : (s.withCoup x).station = s.station := rfl
@[simp] theorem State.withCoup_prop (s : State) (x : CouplingUnit) : (s.withCoup x).prop = s.prop := rfl
@[simp] theorem State.withCoup_steer (s : State) (x : CouplingUnit) : (s.withCoup x).steer = s.steer := rfl
@[simp] theorem State.withCoup_mach (s : State) (x : CouplingUnit) : (s.withCoup x).mach = s.mach := rfl
@[simp] theorem State.withCoup_towLine (s : State) (x : CouplingUnit) : (s.withCoup x).towLine = s.towLine := rfl
@[simp] theorem State.withCoup_coup (s : State) (x : CouplingUnit) : (s.withCoup x).coup = x := rfl
@[simp] theorem State.withCoup_fuel (s : State) (x : CouplingUnit) : (s.withCoup x).fuel = s.fuel := rfl
@[simp] theorem State.withCoup_transfer (s : State) (x : CouplingUnit) : (s.withCoup x).transfer = s.transfer := rfl
@[simp] theorem State.withCoup_cond (s : State) (x : CouplingUnit) : (s.withCoup x).cond = s.cond := rfl
@[simp] theorem State.withCoup_store (s : State) (x : CouplingUnit) : (s.withCoup x).store = s.store := rfl
@[simp] theorem State.withCoup_lines (s : State) (x : CouplingUnit) : (s.withCoup x).lines = s.lines := rfl
@[simp] theorem State.withCoup_tx (s : State) (x : CouplingUnit) : (s.withCoup x).tx = s.tx := rfl
@[simp] theorem State.withCoup_sent (s : State) (x : CouplingUnit) : (s.withCoup x).sent = s.sent := rfl
@[simp] theorem State.withCoup_readBack (s : State) (x : CouplingUnit) : (s.withCoup x).readBack = s.readBack := rfl
@[simp] theorem State.withCoup_draws (s : State) (x : CouplingUnit) : (s.withCoup x).draws = s.draws := rfl
@[simp] theorem State.withCoup_pending (s : State) (x : CouplingUnit) : (s.withCoup x).pending = s.pending := rfl

/-! ## `withFuel` -/

@[simp] theorem State.withFuel_now (s : State) (x : FuelUnit) : (s.withFuel x).now = s.now := rfl
@[simp] theorem State.withFuel_epoch (s : State) (x : FuelUnit) : (s.withFuel x).epoch = s.epoch := rfl
@[simp] theorem State.withFuel_straps (s : State) (x : FuelUnit) : (s.withFuel x).straps = s.straps := rfl
@[simp] theorem State.withFuel_station (s : State) (x : FuelUnit) : (s.withFuel x).station = s.station := rfl
@[simp] theorem State.withFuel_prop (s : State) (x : FuelUnit) : (s.withFuel x).prop = s.prop := rfl
@[simp] theorem State.withFuel_steer (s : State) (x : FuelUnit) : (s.withFuel x).steer = s.steer := rfl
@[simp] theorem State.withFuel_mach (s : State) (x : FuelUnit) : (s.withFuel x).mach = s.mach := rfl
@[simp] theorem State.withFuel_towLine (s : State) (x : FuelUnit) : (s.withFuel x).towLine = s.towLine := rfl
@[simp] theorem State.withFuel_coup (s : State) (x : FuelUnit) : (s.withFuel x).coup = s.coup := rfl
@[simp] theorem State.withFuel_fuel (s : State) (x : FuelUnit) : (s.withFuel x).fuel = x := rfl
@[simp] theorem State.withFuel_transfer (s : State) (x : FuelUnit) : (s.withFuel x).transfer = s.transfer := rfl
@[simp] theorem State.withFuel_cond (s : State) (x : FuelUnit) : (s.withFuel x).cond = s.cond := rfl
@[simp] theorem State.withFuel_store (s : State) (x : FuelUnit) : (s.withFuel x).store = s.store := rfl
@[simp] theorem State.withFuel_lines (s : State) (x : FuelUnit) : (s.withFuel x).lines = s.lines := rfl
@[simp] theorem State.withFuel_tx (s : State) (x : FuelUnit) : (s.withFuel x).tx = s.tx := rfl
@[simp] theorem State.withFuel_sent (s : State) (x : FuelUnit) : (s.withFuel x).sent = s.sent := rfl
@[simp] theorem State.withFuel_readBack (s : State) (x : FuelUnit) : (s.withFuel x).readBack = s.readBack := rfl
@[simp] theorem State.withFuel_draws (s : State) (x : FuelUnit) : (s.withFuel x).draws = s.draws := rfl
@[simp] theorem State.withFuel_pending (s : State) (x : FuelUnit) : (s.withFuel x).pending = s.pending := rfl

/-! ## `withTransfer` -/

@[simp] theorem State.withTransfer_now (s : State) (x : TransferUnit) : (s.withTransfer x).now = s.now := rfl
@[simp] theorem State.withTransfer_epoch (s : State) (x : TransferUnit) : (s.withTransfer x).epoch = s.epoch := rfl
@[simp] theorem State.withTransfer_straps (s : State) (x : TransferUnit) : (s.withTransfer x).straps = s.straps := rfl
@[simp] theorem State.withTransfer_station (s : State) (x : TransferUnit) : (s.withTransfer x).station = s.station := rfl
@[simp] theorem State.withTransfer_prop (s : State) (x : TransferUnit) : (s.withTransfer x).prop = s.prop := rfl
@[simp] theorem State.withTransfer_steer (s : State) (x : TransferUnit) : (s.withTransfer x).steer = s.steer := rfl
@[simp] theorem State.withTransfer_mach (s : State) (x : TransferUnit) : (s.withTransfer x).mach = s.mach := rfl
@[simp] theorem State.withTransfer_towLine (s : State) (x : TransferUnit) : (s.withTransfer x).towLine = s.towLine := rfl
@[simp] theorem State.withTransfer_coup (s : State) (x : TransferUnit) : (s.withTransfer x).coup = s.coup := rfl
@[simp] theorem State.withTransfer_fuel (s : State) (x : TransferUnit) : (s.withTransfer x).fuel = s.fuel := rfl
@[simp] theorem State.withTransfer_transfer (s : State) (x : TransferUnit) : (s.withTransfer x).transfer = x := rfl
@[simp] theorem State.withTransfer_cond (s : State) (x : TransferUnit) : (s.withTransfer x).cond = s.cond := rfl
@[simp] theorem State.withTransfer_store (s : State) (x : TransferUnit) : (s.withTransfer x).store = s.store := rfl
@[simp] theorem State.withTransfer_lines (s : State) (x : TransferUnit) : (s.withTransfer x).lines = s.lines := rfl
@[simp] theorem State.withTransfer_tx (s : State) (x : TransferUnit) : (s.withTransfer x).tx = s.tx := rfl
@[simp] theorem State.withTransfer_sent (s : State) (x : TransferUnit) : (s.withTransfer x).sent = s.sent := rfl
@[simp] theorem State.withTransfer_readBack (s : State) (x : TransferUnit) : (s.withTransfer x).readBack = s.readBack := rfl
@[simp] theorem State.withTransfer_draws (s : State) (x : TransferUnit) : (s.withTransfer x).draws = s.draws := rfl
@[simp] theorem State.withTransfer_pending (s : State) (x : TransferUnit) : (s.withTransfer x).pending = s.pending := rfl

/-! ## `withCond` -/

@[simp] theorem State.withCond_now (s : State) (x : CondUnit) : (s.withCond x).now = s.now := rfl
@[simp] theorem State.withCond_epoch (s : State) (x : CondUnit) : (s.withCond x).epoch = s.epoch := rfl
@[simp] theorem State.withCond_straps (s : State) (x : CondUnit) : (s.withCond x).straps = s.straps := rfl
@[simp] theorem State.withCond_station (s : State) (x : CondUnit) : (s.withCond x).station = s.station := rfl
@[simp] theorem State.withCond_prop (s : State) (x : CondUnit) : (s.withCond x).prop = s.prop := rfl
@[simp] theorem State.withCond_steer (s : State) (x : CondUnit) : (s.withCond x).steer = s.steer := rfl
@[simp] theorem State.withCond_mach (s : State) (x : CondUnit) : (s.withCond x).mach = s.mach := rfl
@[simp] theorem State.withCond_towLine (s : State) (x : CondUnit) : (s.withCond x).towLine = s.towLine := rfl
@[simp] theorem State.withCond_coup (s : State) (x : CondUnit) : (s.withCond x).coup = s.coup := rfl
@[simp] theorem State.withCond_fuel (s : State) (x : CondUnit) : (s.withCond x).fuel = s.fuel := rfl
@[simp] theorem State.withCond_transfer (s : State) (x : CondUnit) : (s.withCond x).transfer = s.transfer := rfl
@[simp] theorem State.withCond_cond (s : State) (x : CondUnit) : (s.withCond x).cond = x := rfl
@[simp] theorem State.withCond_store (s : State) (x : CondUnit) : (s.withCond x).store = s.store := rfl
@[simp] theorem State.withCond_lines (s : State) (x : CondUnit) : (s.withCond x).lines = s.lines := rfl
@[simp] theorem State.withCond_tx (s : State) (x : CondUnit) : (s.withCond x).tx = s.tx := rfl
@[simp] theorem State.withCond_sent (s : State) (x : CondUnit) : (s.withCond x).sent = s.sent := rfl
@[simp] theorem State.withCond_readBack (s : State) (x : CondUnit) : (s.withCond x).readBack = s.readBack := rfl
@[simp] theorem State.withCond_draws (s : State) (x : CondUnit) : (s.withCond x).draws = s.draws := rfl
@[simp] theorem State.withCond_pending (s : State) (x : CondUnit) : (s.withCond x).pending = s.pending := rfl

/-! ## `withStore` -/

@[simp] theorem State.withStore_now (s : State) (x : TableStore) : (s.withStore x).now = s.now := rfl
@[simp] theorem State.withStore_epoch (s : State) (x : TableStore) : (s.withStore x).epoch = s.epoch := rfl
@[simp] theorem State.withStore_straps (s : State) (x : TableStore) : (s.withStore x).straps = s.straps := rfl
@[simp] theorem State.withStore_station (s : State) (x : TableStore) : (s.withStore x).station = s.station := rfl
@[simp] theorem State.withStore_prop (s : State) (x : TableStore) : (s.withStore x).prop = s.prop := rfl
@[simp] theorem State.withStore_steer (s : State) (x : TableStore) : (s.withStore x).steer = s.steer := rfl
@[simp] theorem State.withStore_mach (s : State) (x : TableStore) : (s.withStore x).mach = s.mach := rfl
@[simp] theorem State.withStore_towLine (s : State) (x : TableStore) : (s.withStore x).towLine = s.towLine := rfl
@[simp] theorem State.withStore_coup (s : State) (x : TableStore) : (s.withStore x).coup = s.coup := rfl
@[simp] theorem State.withStore_fuel (s : State) (x : TableStore) : (s.withStore x).fuel = s.fuel := rfl
@[simp] theorem State.withStore_transfer (s : State) (x : TableStore) : (s.withStore x).transfer = s.transfer := rfl
@[simp] theorem State.withStore_cond (s : State) (x : TableStore) : (s.withStore x).cond = s.cond := rfl
@[simp] theorem State.withStore_store (s : State) (x : TableStore) : (s.withStore x).store = x := rfl
@[simp] theorem State.withStore_lines (s : State) (x : TableStore) : (s.withStore x).lines = s.lines := rfl
@[simp] theorem State.withStore_tx (s : State) (x : TableStore) : (s.withStore x).tx = s.tx := rfl
@[simp] theorem State.withStore_sent (s : State) (x : TableStore) : (s.withStore x).sent = s.sent := rfl
@[simp] theorem State.withStore_readBack (s : State) (x : TableStore) : (s.withStore x).readBack = s.readBack := rfl
@[simp] theorem State.withStore_draws (s : State) (x : TableStore) : (s.withStore x).draws = s.draws := rfl
@[simp] theorem State.withStore_pending (s : State) (x : TableStore) : (s.withStore x).pending = s.pending := rfl

/-! ## `withLines` -/

@[simp] theorem State.withLines_now (s : State) (x : LineCounters) : (s.withLines x).now = s.now := rfl
@[simp] theorem State.withLines_epoch (s : State) (x : LineCounters) : (s.withLines x).epoch = s.epoch := rfl
@[simp] theorem State.withLines_straps (s : State) (x : LineCounters) : (s.withLines x).straps = s.straps := rfl
@[simp] theorem State.withLines_station (s : State) (x : LineCounters) : (s.withLines x).station = s.station := rfl
@[simp] theorem State.withLines_prop (s : State) (x : LineCounters) : (s.withLines x).prop = s.prop := rfl
@[simp] theorem State.withLines_steer (s : State) (x : LineCounters) : (s.withLines x).steer = s.steer := rfl
@[simp] theorem State.withLines_mach (s : State) (x : LineCounters) : (s.withLines x).mach = s.mach := rfl
@[simp] theorem State.withLines_towLine (s : State) (x : LineCounters) : (s.withLines x).towLine = s.towLine := rfl
@[simp] theorem State.withLines_coup (s : State) (x : LineCounters) : (s.withLines x).coup = s.coup := rfl
@[simp] theorem State.withLines_fuel (s : State) (x : LineCounters) : (s.withLines x).fuel = s.fuel := rfl
@[simp] theorem State.withLines_transfer (s : State) (x : LineCounters) : (s.withLines x).transfer = s.transfer := rfl
@[simp] theorem State.withLines_cond (s : State) (x : LineCounters) : (s.withLines x).cond = s.cond := rfl
@[simp] theorem State.withLines_store (s : State) (x : LineCounters) : (s.withLines x).store = s.store := rfl
@[simp] theorem State.withLines_lines (s : State) (x : LineCounters) : (s.withLines x).lines = x := rfl
@[simp] theorem State.withLines_tx (s : State) (x : LineCounters) : (s.withLines x).tx = s.tx := rfl
@[simp] theorem State.withLines_sent (s : State) (x : LineCounters) : (s.withLines x).sent = s.sent := rfl
@[simp] theorem State.withLines_readBack (s : State) (x : LineCounters) : (s.withLines x).readBack = s.readBack := rfl
@[simp] theorem State.withLines_draws (s : State) (x : LineCounters) : (s.withLines x).draws = s.draws := rfl
@[simp] theorem State.withLines_pending (s : State) (x : LineCounters) : (s.withLines x).pending = s.pending := rfl

/-! ## `withTx` -/

@[simp] theorem State.withTx_now (s : State) (x : StationTx) : (s.withTx x).now = s.now := rfl
@[simp] theorem State.withTx_epoch (s : State) (x : StationTx) : (s.withTx x).epoch = s.epoch := rfl
@[simp] theorem State.withTx_straps (s : State) (x : StationTx) : (s.withTx x).straps = s.straps := rfl
@[simp] theorem State.withTx_station (s : State) (x : StationTx) : (s.withTx x).station = s.station := rfl
@[simp] theorem State.withTx_prop (s : State) (x : StationTx) : (s.withTx x).prop = s.prop := rfl
@[simp] theorem State.withTx_steer (s : State) (x : StationTx) : (s.withTx x).steer = s.steer := rfl
@[simp] theorem State.withTx_mach (s : State) (x : StationTx) : (s.withTx x).mach = s.mach := rfl
@[simp] theorem State.withTx_towLine (s : State) (x : StationTx) : (s.withTx x).towLine = s.towLine := rfl
@[simp] theorem State.withTx_coup (s : State) (x : StationTx) : (s.withTx x).coup = s.coup := rfl
@[simp] theorem State.withTx_fuel (s : State) (x : StationTx) : (s.withTx x).fuel = s.fuel := rfl
@[simp] theorem State.withTx_transfer (s : State) (x : StationTx) : (s.withTx x).transfer = s.transfer := rfl
@[simp] theorem State.withTx_cond (s : State) (x : StationTx) : (s.withTx x).cond = s.cond := rfl
@[simp] theorem State.withTx_store (s : State) (x : StationTx) : (s.withTx x).store = s.store := rfl
@[simp] theorem State.withTx_lines (s : State) (x : StationTx) : (s.withTx x).lines = s.lines := rfl
@[simp] theorem State.withTx_tx (s : State) (x : StationTx) : (s.withTx x).tx = x := rfl
@[simp] theorem State.withTx_sent (s : State) (x : StationTx) : (s.withTx x).sent = s.sent := rfl
@[simp] theorem State.withTx_readBack (s : State) (x : StationTx) : (s.withTx x).readBack = s.readBack := rfl
@[simp] theorem State.withTx_draws (s : State) (x : StationTx) : (s.withTx x).draws = s.draws := rfl
@[simp] theorem State.withTx_pending (s : State) (x : StationTx) : (s.withTx x).pending = s.pending := rfl

/-! ## `withSent` -/

@[simp] theorem State.withSent_now (s : State) (x : SentLog) : (s.withSent x).now = s.now := rfl
@[simp] theorem State.withSent_epoch (s : State) (x : SentLog) : (s.withSent x).epoch = s.epoch := rfl
@[simp] theorem State.withSent_straps (s : State) (x : SentLog) : (s.withSent x).straps = s.straps := rfl
@[simp] theorem State.withSent_station (s : State) (x : SentLog) : (s.withSent x).station = s.station := rfl
@[simp] theorem State.withSent_prop (s : State) (x : SentLog) : (s.withSent x).prop = s.prop := rfl
@[simp] theorem State.withSent_steer (s : State) (x : SentLog) : (s.withSent x).steer = s.steer := rfl
@[simp] theorem State.withSent_mach (s : State) (x : SentLog) : (s.withSent x).mach = s.mach := rfl
@[simp] theorem State.withSent_towLine (s : State) (x : SentLog) : (s.withSent x).towLine = s.towLine := rfl
@[simp] theorem State.withSent_coup (s : State) (x : SentLog) : (s.withSent x).coup = s.coup := rfl
@[simp] theorem State.withSent_fuel (s : State) (x : SentLog) : (s.withSent x).fuel = s.fuel := rfl
@[simp] theorem State.withSent_transfer (s : State) (x : SentLog) : (s.withSent x).transfer = s.transfer := rfl
@[simp] theorem State.withSent_cond (s : State) (x : SentLog) : (s.withSent x).cond = s.cond := rfl
@[simp] theorem State.withSent_store (s : State) (x : SentLog) : (s.withSent x).store = s.store := rfl
@[simp] theorem State.withSent_lines (s : State) (x : SentLog) : (s.withSent x).lines = s.lines := rfl
@[simp] theorem State.withSent_tx (s : State) (x : SentLog) : (s.withSent x).tx = s.tx := rfl
@[simp] theorem State.withSent_sent (s : State) (x : SentLog) : (s.withSent x).sent = x := rfl
@[simp] theorem State.withSent_readBack (s : State) (x : SentLog) : (s.withSent x).readBack = s.readBack := rfl
@[simp] theorem State.withSent_draws (s : State) (x : SentLog) : (s.withSent x).draws = s.draws := rfl
@[simp] theorem State.withSent_pending (s : State) (x : SentLog) : (s.withSent x).pending = s.pending := rfl

/-! ## `withReadBack` -/

@[simp] theorem State.withReadBack_now (s : State) (x : ReadBack) : (s.withReadBack x).now = s.now := rfl
@[simp] theorem State.withReadBack_epoch (s : State) (x : ReadBack) : (s.withReadBack x).epoch = s.epoch := rfl
@[simp] theorem State.withReadBack_straps (s : State) (x : ReadBack) : (s.withReadBack x).straps = s.straps := rfl
@[simp] theorem State.withReadBack_station (s : State) (x : ReadBack) : (s.withReadBack x).station = s.station := rfl
@[simp] theorem State.withReadBack_prop (s : State) (x : ReadBack) : (s.withReadBack x).prop = s.prop := rfl
@[simp] theorem State.withReadBack_steer (s : State) (x : ReadBack) : (s.withReadBack x).steer = s.steer := rfl
@[simp] theorem State.withReadBack_mach (s : State) (x : ReadBack) : (s.withReadBack x).mach = s.mach := rfl
@[simp] theorem State.withReadBack_towLine (s : State) (x : ReadBack) : (s.withReadBack x).towLine = s.towLine := rfl
@[simp] theorem State.withReadBack_coup (s : State) (x : ReadBack) : (s.withReadBack x).coup = s.coup := rfl
@[simp] theorem State.withReadBack_fuel (s : State) (x : ReadBack) : (s.withReadBack x).fuel = s.fuel := rfl
@[simp] theorem State.withReadBack_transfer (s : State) (x : ReadBack) : (s.withReadBack x).transfer = s.transfer := rfl
@[simp] theorem State.withReadBack_cond (s : State) (x : ReadBack) : (s.withReadBack x).cond = s.cond := rfl
@[simp] theorem State.withReadBack_store (s : State) (x : ReadBack) : (s.withReadBack x).store = s.store := rfl
@[simp] theorem State.withReadBack_lines (s : State) (x : ReadBack) : (s.withReadBack x).lines = s.lines := rfl
@[simp] theorem State.withReadBack_tx (s : State) (x : ReadBack) : (s.withReadBack x).tx = s.tx := rfl
@[simp] theorem State.withReadBack_sent (s : State) (x : ReadBack) : (s.withReadBack x).sent = s.sent := rfl
@[simp] theorem State.withReadBack_readBack (s : State) (x : ReadBack) : (s.withReadBack x).readBack = x := rfl
@[simp] theorem State.withReadBack_draws (s : State) (x : ReadBack) : (s.withReadBack x).draws = s.draws := rfl
@[simp] theorem State.withReadBack_pending (s : State) (x : ReadBack) : (s.withReadBack x).pending = s.pending := rfl

/-! ## `withDraws` -/

@[simp] theorem State.withDraws_now (s : State) (x : Nat) : (s.withDraws x).now = s.now := rfl
@[simp] theorem State.withDraws_epoch (s : State) (x : Nat) : (s.withDraws x).epoch = s.epoch := rfl
@[simp] theorem State.withDraws_straps (s : State) (x : Nat) : (s.withDraws x).straps = s.straps := rfl
@[simp] theorem State.withDraws_station (s : State) (x : Nat) : (s.withDraws x).station = s.station := rfl
@[simp] theorem State.withDraws_prop (s : State) (x : Nat) : (s.withDraws x).prop = s.prop := rfl
@[simp] theorem State.withDraws_steer (s : State) (x : Nat) : (s.withDraws x).steer = s.steer := rfl
@[simp] theorem State.withDraws_mach (s : State) (x : Nat) : (s.withDraws x).mach = s.mach := rfl
@[simp] theorem State.withDraws_towLine (s : State) (x : Nat) : (s.withDraws x).towLine = s.towLine := rfl
@[simp] theorem State.withDraws_coup (s : State) (x : Nat) : (s.withDraws x).coup = s.coup := rfl
@[simp] theorem State.withDraws_fuel (s : State) (x : Nat) : (s.withDraws x).fuel = s.fuel := rfl
@[simp] theorem State.withDraws_transfer (s : State) (x : Nat) : (s.withDraws x).transfer = s.transfer := rfl
@[simp] theorem State.withDraws_cond (s : State) (x : Nat) : (s.withDraws x).cond = s.cond := rfl
@[simp] theorem State.withDraws_store (s : State) (x : Nat) : (s.withDraws x).store = s.store := rfl
@[simp] theorem State.withDraws_lines (s : State) (x : Nat) : (s.withDraws x).lines = s.lines := rfl
@[simp] theorem State.withDraws_tx (s : State) (x : Nat) : (s.withDraws x).tx = s.tx := rfl
@[simp] theorem State.withDraws_sent (s : State) (x : Nat) : (s.withDraws x).sent = s.sent := rfl
@[simp] theorem State.withDraws_readBack (s : State) (x : Nat) : (s.withDraws x).readBack = s.readBack := rfl
@[simp] theorem State.withDraws_draws (s : State) (x : Nat) : (s.withDraws x).draws = x := rfl
@[simp] theorem State.withDraws_pending (s : State) (x : Nat) : (s.withDraws x).pending = s.pending := rfl

/-! ## `withPending` -/

@[simp] theorem State.withPending_now (s : State) (x : List Instr) : (s.withPending x).now = s.now := rfl
@[simp] theorem State.withPending_epoch (s : State) (x : List Instr) : (s.withPending x).epoch = s.epoch := rfl
@[simp] theorem State.withPending_straps (s : State) (x : List Instr) : (s.withPending x).straps = s.straps := rfl
@[simp] theorem State.withPending_station (s : State) (x : List Instr) : (s.withPending x).station = s.station := rfl
@[simp] theorem State.withPending_prop (s : State) (x : List Instr) : (s.withPending x).prop = s.prop := rfl
@[simp] theorem State.withPending_steer (s : State) (x : List Instr) : (s.withPending x).steer = s.steer := rfl
@[simp] theorem State.withPending_mach (s : State) (x : List Instr) : (s.withPending x).mach = s.mach := rfl
@[simp] theorem State.withPending_towLine (s : State) (x : List Instr) : (s.withPending x).towLine = s.towLine := rfl
@[simp] theorem State.withPending_coup (s : State) (x : List Instr) : (s.withPending x).coup = s.coup := rfl
@[simp] theorem State.withPending_fuel (s : State) (x : List Instr) : (s.withPending x).fuel = s.fuel := rfl
@[simp] theorem State.withPending_transfer (s : State) (x : List Instr) : (s.withPending x).transfer = s.transfer := rfl
@[simp] theorem State.withPending_cond (s : State) (x : List Instr) : (s.withPending x).cond = s.cond := rfl
@[simp] theorem State.withPending_store (s : State) (x : List Instr) : (s.withPending x).store = s.store := rfl
@[simp] theorem State.withPending_lines (s : State) (x : List Instr) : (s.withPending x).lines = s.lines := rfl
@[simp] theorem State.withPending_tx (s : State) (x : List Instr) : (s.withPending x).tx = s.tx := rfl
@[simp] theorem State.withPending_sent (s : State) (x : List Instr) : (s.withPending x).sent = s.sent := rfl
@[simp] theorem State.withPending_readBack (s : State) (x : List Instr) : (s.withPending x).readBack = s.readBack := rfl
@[simp] theorem State.withPending_draws (s : State) (x : List Instr) : (s.withPending x).draws = s.draws := rfl
@[simp] theorem State.withPending_pending (s : State) (x : List Instr) : (s.withPending x).pending = x := rfl

end Sys2Proof.Machine
end

