-- ==== Sys2Proof/Laws/Frames.lean ====
section
/-! SUPPORT. The frames of the shared operations: for each, the fields of the State that it leaves as they
were, as one simp lemma. A proof about a command cites these in place of unfolding the operations it runs. -/

namespace Sys2Proof.Machine

section

set_option linter.unusedTactic false
set_option linter.unreachableTactic false
set_option linter.unnecessarySeqFocus false
set_option linter.style.longLine false

/-- A fold keeps what each of its steps keeps. -/
theorem foldl_keeps {α β γ : Type} (g : β → γ) (f : β → α → β) (h : ∀ b a, g (f b a) = g b) (l : List α)
    (b : β) : g (l.foldl f b) = g b := by
  induction l generalizing b with
  | nil => rfl
  | cons x xs ih => simp [List.foldl_cons, ih, h]

theorem State.foldl_now {α : Type} (f : State → α → State) (h : ∀ t a, (f t a).now = t.now) (l : List α)
    (s : State) : (l.foldl f s).now = s.now := foldl_keeps State.now f h l s

theorem State.foldl_epoch {α : Type} (f : State → α → State) (h : ∀ t a, (f t a).epoch = t.epoch) (l : List α)
    (s : State) : (l.foldl f s).epoch = s.epoch := foldl_keeps State.epoch f h l s

theorem State.foldl_straps {α : Type} (f : State → α → State) (h : ∀ t a, (f t a).straps = t.straps) (l : List α)
    (s : State) : (l.foldl f s).straps = s.straps := foldl_keeps State.straps f h l s

theorem State.foldl_station {α : Type} (f : State → α → State) (h : ∀ t a, (f t a).station = t.station) (l : List α)
    (s : State) : (l.foldl f s).station = s.station := foldl_keeps State.station f h l s

theorem State.foldl_prop {α : Type} (f : State → α → State) (h : ∀ t a, (f t a).prop = t.prop) (l : List α)
    (s : State) : (l.foldl f s).prop = s.prop := foldl_keeps State.prop f h l s

theorem State.foldl_steer {α : Type} (f : State → α → State) (h : ∀ t a, (f t a).steer = t.steer) (l : List α)
    (s : State) : (l.foldl f s).steer = s.steer := foldl_keeps State.steer f h l s

theorem State.foldl_mach {α : Type} (f : State → α → State) (h : ∀ t a, (f t a).mach = t.mach) (l : List α)
    (s : State) : (l.foldl f s).mach = s.mach := foldl_keeps State.mach f h l s

theorem State.foldl_towLine {α : Type} (f : State → α → State) (h : ∀ t a, (f t a).towLine = t.towLine) (l : List α)
    (s : State) : (l.foldl f s).towLine = s.towLine := foldl_keeps State.towLine f h l s

theorem State.foldl_coup {α : Type} (f : State → α → State) (h : ∀ t a, (f t a).coup = t.coup) (l : List α)
    (s : State) : (l.foldl f s).coup = s.coup := foldl_keeps State.coup f h l s

theorem State.foldl_fuel {α : Type} (f : State → α → State) (h : ∀ t a, (f t a).fuel = t.fuel) (l : List α)
    (s : State) : (l.foldl f s).fuel = s.fuel := foldl_keeps State.fuel f h l s

theorem State.foldl_transfer {α : Type} (f : State → α → State) (h : ∀ t a, (f t a).transfer = t.transfer) (l : List α)
    (s : State) : (l.foldl f s).transfer = s.transfer := foldl_keeps State.transfer f h l s

theorem State.foldl_cond {α : Type} (f : State → α → State) (h : ∀ t a, (f t a).cond = t.cond) (l : List α)
    (s : State) : (l.foldl f s).cond = s.cond := foldl_keeps State.cond f h l s

theorem State.foldl_store {α : Type} (f : State → α → State) (h : ∀ t a, (f t a).store = t.store) (l : List α)
    (s : State) : (l.foldl f s).store = s.store := foldl_keeps State.store f h l s

theorem State.foldl_lines {α : Type} (f : State → α → State) (h : ∀ t a, (f t a).lines = t.lines) (l : List α)
    (s : State) : (l.foldl f s).lines = s.lines := foldl_keeps State.lines f h l s

theorem State.foldl_tx {α : Type} (f : State → α → State) (h : ∀ t a, (f t a).tx = t.tx) (l : List α)
    (s : State) : (l.foldl f s).tx = s.tx := foldl_keeps State.tx f h l s

theorem State.foldl_sent {α : Type} (f : State → α → State) (h : ∀ t a, (f t a).sent = t.sent) (l : List α)
    (s : State) : (l.foldl f s).sent = s.sent := foldl_keeps State.sent f h l s

theorem State.foldl_readBack {α : Type} (f : State → α → State) (h : ∀ t a, (f t a).readBack = t.readBack) (l : List α)
    (s : State) : (l.foldl f s).readBack = s.readBack := foldl_keeps State.readBack f h l s

theorem State.foldl_draws {α : Type} (f : State → α → State) (h : ∀ t a, (f t a).draws = t.draws) (l : List α)
    (s : State) : (l.foldl f s).draws = s.draws := foldl_keeps State.draws f h l s

theorem State.foldl_pending {α : Type} (f : State → α → State) (h : ∀ t a, (f t a).pending = t.pending) (l : List α)
    (s : State) : (l.foldl f s).pending = s.pending := foldl_keeps State.pending f h l s

theorem State.onConsumersOf_keeps {γ : Type} (g : State → γ) (f : State → Fin 6 → ConsumerEntry → State)
    (h : ∀ t i e, g (f t i e) = g t) (s : State) (address : Nat) : g (s.onConsumersOf address f) = g s := by
  unfold State.onConsumersOf
  apply foldl_keeps
  intro t i

  split
  · rfl
  · split <;> simp [h]

theorem State.onEnginesOf_keeps {γ : Type} (g : State → γ) (f : State → Fin 4 → EngineEntry → State)
    (h : ∀ t i e, g (f t i e) = g t) (s : State) (address : Nat) : g (s.onEnginesOf address f) = g s := by
  unfold State.onEnginesOf
  apply foldl_keeps
  intro t i
  split
  · rfl
  · split <;> simp [h]

theorem State.onRuddersOf_keeps {γ : Type} (g : State → γ) (f : State → Fin 7 → SteerEntry → State)
    (h : ∀ t i e, g (f t i e) = g t) (s : State) (address : Nat) : g (s.onRuddersOf address f) = g s := by
  unfold State.onRuddersOf
  apply foldl_keeps
  intro t i
  split
  · rfl
  · split <;> simp [h]

theorem State.onTanksOf_keeps {γ : Type} (g : State → γ) (f : State → Fin 12 → TankEntry → State)
    (h : ∀ t i e, g (f t i e) = g t) (s : State) (address : Nat) : g (s.onTanksOf address f) = g s := by
  unfold State.onTanksOf
  apply foldl_keeps
  intro t i

  split
  · rfl
  · split <;> simp [h]

/-! ## Operations of Machine/Ops.lean -/

@[simp] theorem State.reach_frame (s : State) (t : Moment) :
    (s.reach t).epoch = s.epoch ∧ (s.reach t).straps = s.straps ∧ (s.reach t).station = s.station ∧
    (s.reach t).prop = s.prop ∧ (s.reach t).steer = s.steer ∧ (s.reach t).mach = s.mach ∧
    (s.reach t).towLine = s.towLine ∧ (s.reach t).coup = s.coup ∧ (s.reach t).fuel = s.fuel ∧
    (s.reach t).transfer = s.transfer ∧ (s.reach t).cond = s.cond ∧ (s.reach t).store = s.store ∧
    (s.reach t).lines = s.lines ∧ (s.reach t).tx = s.tx ∧ (s.reach t).sent = s.sent ∧
    (s.reach t).readBack = s.readBack ∧ (s.reach t).draws = s.draws ∧ (s.reach t).pending = s.pending := by
  simp [State.reach]

@[simp] theorem State.enter_frame (s : State) (e : Env) :
    (s.enter e).epoch = s.epoch ∧ (s.enter e).straps = s.straps ∧ (s.enter e).station = s.station ∧
    (s.enter e).prop = s.prop ∧ (s.enter e).steer = s.steer ∧ (s.enter e).mach = s.mach ∧
    (s.enter e).towLine = s.towLine ∧ (s.enter e).coup = s.coup ∧ (s.enter e).fuel = s.fuel ∧
    (s.enter e).transfer = s.transfer ∧ (s.enter e).cond = s.cond ∧ (s.enter e).store = s.store ∧
    (s.enter e).lines = s.lines ∧ (s.enter e).tx = s.tx ∧ (s.enter e).sent = s.sent ∧
    (s.enter e).draws = s.draws ∧ (s.enter e).pending = s.pending := by
  simp [State.enter]

@[simp] theorem State.modStation_frame (s : State) (n : Fin 4) (f : Station → Station) :
    (s.modStation n f).now = s.now ∧ (s.modStation n f).epoch = s.epoch ∧
    (s.modStation n f).straps = s.straps ∧ (s.modStation n f).prop = s.prop ∧
    (s.modStation n f).steer = s.steer ∧ (s.modStation n f).mach = s.mach ∧
    (s.modStation n f).towLine = s.towLine ∧ (s.modStation n f).coup = s.coup ∧
    (s.modStation n f).fuel = s.fuel ∧ (s.modStation n f).transfer = s.transfer ∧
    (s.modStation n f).cond = s.cond ∧ (s.modStation n f).store = s.store ∧
    (s.modStation n f).lines = s.lines ∧ (s.modStation n f).tx = s.tx ∧ (s.modStation n f).sent = s.sent ∧
    (s.modStation n f).readBack = s.readBack ∧ (s.modStation n f).draws = s.draws ∧
    (s.modStation n f).pending = s.pending := by
  simp [State.modStation]

@[simp] theorem State.modEngine_frame (s : State) (n : Fin 4) (f : Engine → Engine) :
    (s.modEngine n f).now = s.now ∧ (s.modEngine n f).epoch = s.epoch ∧
    (s.modEngine n f).straps = s.straps ∧ (s.modEngine n f).station = s.station ∧
    (s.modEngine n f).steer = s.steer ∧ (s.modEngine n f).mach = s.mach ∧
    (s.modEngine n f).towLine = s.towLine ∧ (s.modEngine n f).coup = s.coup ∧
    (s.modEngine n f).fuel = s.fuel ∧ (s.modEngine n f).transfer = s.transfer ∧
    (s.modEngine n f).cond = s.cond ∧ (s.modEngine n f).store = s.store ∧
    (s.modEngine n f).lines = s.lines ∧ (s.modEngine n f).tx = s.tx ∧ (s.modEngine n f).sent = s.sent ∧
    (s.modEngine n f).readBack = s.readBack ∧ (s.modEngine n f).draws = s.draws ∧
    (s.modEngine n f).pending = s.pending := by
  simp [State.modEngine]

@[simp] theorem State.modActuator_frame (s : State) (i : Fin 7) (f : Actuator → Actuator) :
    (s.modActuator i f).now = s.now ∧ (s.modActuator i f).epoch = s.epoch ∧
    (s.modActuator i f).straps = s.straps ∧ (s.modActuator i f).station = s.station ∧
    (s.modActuator i f).prop = s.prop ∧ (s.modActuator i f).mach = s.mach ∧
    (s.modActuator i f).towLine = s.towLine ∧ (s.modActuator i f).coup = s.coup ∧
    (s.modActuator i f).fuel = s.fuel ∧ (s.modActuator i f).transfer = s.transfer ∧
    (s.modActuator i f).cond = s.cond ∧ (s.modActuator i f).store = s.store ∧
    (s.modActuator i f).lines = s.lines ∧ (s.modActuator i f).tx = s.tx ∧
    (s.modActuator i f).sent = s.sent ∧ (s.modActuator i f).readBack = s.readBack ∧
    (s.modActuator i f).draws = s.draws ∧ (s.modActuator i f).pending = s.pending := by
  simp [State.modActuator]

@[simp] theorem State.modMachNode_frame (s : State) (i : Fin 30) (f : MachNode → MachNode) :
    (s.modMachNode i f).now = s.now ∧ (s.modMachNode i f).epoch = s.epoch ∧
    (s.modMachNode i f).straps = s.straps ∧ (s.modMachNode i f).station = s.station ∧
    (s.modMachNode i f).prop = s.prop ∧ (s.modMachNode i f).steer = s.steer ∧
    (s.modMachNode i f).towLine = s.towLine ∧ (s.modMachNode i f).coup = s.coup ∧
    (s.modMachNode i f).fuel = s.fuel ∧ (s.modMachNode i f).transfer = s.transfer ∧
    (s.modMachNode i f).cond = s.cond ∧ (s.modMachNode i f).store = s.store ∧
    (s.modMachNode i f).lines = s.lines ∧ (s.modMachNode i f).tx = s.tx ∧
    (s.modMachNode i f).sent = s.sent ∧ (s.modMachNode i f).readBack = s.readBack ∧
    (s.modMachNode i f).draws = s.draws ∧ (s.modMachNode i f).pending = s.pending := by
  simp [State.modMachNode]

@[simp] theorem State.modTowNode_frame (s : State) (i : Nat) (f : TowNode → TowNode) :
    (s.modTowNode i f).now = s.now ∧ (s.modTowNode i f).epoch = s.epoch ∧
    (s.modTowNode i f).straps = s.straps ∧ (s.modTowNode i f).station = s.station ∧
    (s.modTowNode i f).prop = s.prop ∧ (s.modTowNode i f).steer = s.steer ∧
    (s.modTowNode i f).mach = s.mach ∧ (s.modTowNode i f).coup = s.coup ∧
    (s.modTowNode i f).fuel = s.fuel ∧ (s.modTowNode i f).transfer = s.transfer ∧
    (s.modTowNode i f).cond = s.cond ∧ (s.modTowNode i f).store = s.store ∧
    (s.modTowNode i f).lines = s.lines ∧ (s.modTowNode i f).tx = s.tx ∧ (s.modTowNode i f).sent = s.sent ∧
    (s.modTowNode i f).readBack = s.readBack ∧ (s.modTowNode i f).draws = s.draws ∧
    (s.modTowNode i f).pending = s.pending := by
  simp [State.modTowNode]

@[simp] theorem State.modCoupling_frame (s : State) (i : Nat) (f : Coupling → Coupling) :
    (s.modCoupling i f).now = s.now ∧ (s.modCoupling i f).epoch = s.epoch ∧
    (s.modCoupling i f).straps = s.straps ∧ (s.modCoupling i f).station = s.station ∧
    (s.modCoupling i f).prop = s.prop ∧ (s.modCoupling i f).steer = s.steer ∧
    (s.modCoupling i f).mach = s.mach ∧ (s.modCoupling i f).towLine = s.towLine ∧
    (s.modCoupling i f).fuel = s.fuel ∧ (s.modCoupling i f).transfer = s.transfer ∧
    (s.modCoupling i f).cond = s.cond ∧ (s.modCoupling i f).store = s.store ∧
    (s.modCoupling i f).lines = s.lines ∧ (s.modCoupling i f).tx = s.tx ∧
    (s.modCoupling i f).sent = s.sent ∧ (s.modCoupling i f).readBack = s.readBack ∧
    (s.modCoupling i f).draws = s.draws ∧ (s.modCoupling i f).pending = s.pending := by
  simp [State.modCoupling]

@[simp] theorem State.modConsumer_frame (s : State) (i : Fin 6) (f : Consumer → Consumer) :
    (s.modConsumer i f).now = s.now ∧ (s.modConsumer i f).epoch = s.epoch ∧
    (s.modConsumer i f).straps = s.straps ∧ (s.modConsumer i f).station = s.station ∧
    (s.modConsumer i f).prop = s.prop ∧ (s.modConsumer i f).steer = s.steer ∧
    (s.modConsumer i f).mach = s.mach ∧ (s.modConsumer i f).towLine = s.towLine ∧
    (s.modConsumer i f).coup = s.coup ∧ (s.modConsumer i f).transfer = s.transfer ∧
    (s.modConsumer i f).cond = s.cond ∧ (s.modConsumer i f).store = s.store ∧
    (s.modConsumer i f).lines = s.lines ∧ (s.modConsumer i f).tx = s.tx ∧
    (s.modConsumer i f).sent = s.sent ∧ (s.modConsumer i f).readBack = s.readBack ∧
    (s.modConsumer i f).draws = s.draws ∧ (s.modConsumer i f).pending = s.pending := by
  simp [State.modConsumer]

@[simp] theorem State.modTank_frame (s : State) (i : Fin 12) (f : Tank → Tank) :
    (s.modTank i f).now = s.now ∧ (s.modTank i f).epoch = s.epoch ∧ (s.modTank i f).straps = s.straps ∧
    (s.modTank i f).station = s.station ∧ (s.modTank i f).prop = s.prop ∧ (s.modTank i f).steer = s.steer ∧
    (s.modTank i f).mach = s.mach ∧ (s.modTank i f).towLine = s.towLine ∧ (s.modTank i f).coup = s.coup ∧
    (s.modTank i f).transfer = s.transfer ∧ (s.modTank i f).cond = s.cond ∧
    (s.modTank i f).store = s.store ∧ (s.modTank i f).lines = s.lines ∧ (s.modTank i f).tx = s.tx ∧
    (s.modTank i f).sent = s.sent ∧ (s.modTank i f).readBack = s.readBack ∧
    (s.modTank i f).draws = s.draws ∧ (s.modTank i f).pending = s.pending := by
  simp [State.modTank]

@[simp] theorem State.modRule_frame (s : State) (r : Fin 4) (f : RuleState → RuleState) :
    (s.modRule r f).now = s.now ∧ (s.modRule r f).epoch = s.epoch ∧ (s.modRule r f).straps = s.straps ∧
    (s.modRule r f).station = s.station ∧ (s.modRule r f).prop = s.prop ∧ (s.modRule r f).steer = s.steer ∧
    (s.modRule r f).mach = s.mach ∧ (s.modRule r f).towLine = s.towLine ∧ (s.modRule r f).coup = s.coup ∧
    (s.modRule r f).fuel = s.fuel ∧ (s.modRule r f).cond = s.cond ∧ (s.modRule r f).store = s.store ∧
    (s.modRule r f).lines = s.lines ∧ (s.modRule r f).tx = s.tx ∧ (s.modRule r f).sent = s.sent ∧
    (s.modRule r f).readBack = s.readBack ∧ (s.modRule r f).draws = s.draws ∧
    (s.modRule r f).pending = s.pending := by
  simp [State.modRule]

@[simp] theorem State.modSlot_frame (s : State) (id : Fin 13) (f : TableSlot → TableSlot) :
    (s.modSlot id f).now = s.now ∧ (s.modSlot id f).epoch = s.epoch ∧ (s.modSlot id f).straps = s.straps ∧
    (s.modSlot id f).station = s.station ∧ (s.modSlot id f).prop = s.prop ∧
    (s.modSlot id f).steer = s.steer ∧ (s.modSlot id f).mach = s.mach ∧
    (s.modSlot id f).towLine = s.towLine ∧ (s.modSlot id f).coup = s.coup ∧
    (s.modSlot id f).fuel = s.fuel ∧ (s.modSlot id f).transfer = s.transfer ∧
    (s.modSlot id f).cond = s.cond ∧ (s.modSlot id f).lines = s.lines ∧ (s.modSlot id f).tx = s.tx ∧
    (s.modSlot id f).sent = s.sent ∧ (s.modSlot id f).readBack = s.readBack ∧
    (s.modSlot id f).draws = s.draws ∧ (s.modSlot id f).pending = s.pending := by
  simp [State.modSlot]

@[simp] theorem State.countStationDiscarded_frame (s : State) :
    (s.countStationDiscarded).now = s.now ∧ (s.countStationDiscarded).epoch = s.epoch ∧
    (s.countStationDiscarded).straps = s.straps ∧ (s.countStationDiscarded).station = s.station ∧
    (s.countStationDiscarded).prop = s.prop ∧ (s.countStationDiscarded).steer = s.steer ∧
    (s.countStationDiscarded).mach = s.mach ∧ (s.countStationDiscarded).towLine = s.towLine ∧
    (s.countStationDiscarded).coup = s.coup ∧ (s.countStationDiscarded).fuel = s.fuel ∧
    (s.countStationDiscarded).transfer = s.transfer ∧ (s.countStationDiscarded).cond = s.cond ∧
    (s.countStationDiscarded).store = s.store ∧ (s.countStationDiscarded).tx = s.tx ∧
    (s.countStationDiscarded).sent = s.sent ∧ (s.countStationDiscarded).readBack = s.readBack ∧
    (s.countStationDiscarded).draws = s.draws ∧ (s.countStationDiscarded).pending = s.pending := by
  simp [State.countStationDiscarded]

@[simp] theorem State.countStationGood_frame (s : State) :
    (s.countStationGood).now = s.now ∧ (s.countStationGood).epoch = s.epoch ∧
    (s.countStationGood).straps = s.straps ∧ (s.countStationGood).station = s.station ∧
    (s.countStationGood).prop = s.prop ∧ (s.countStationGood).steer = s.steer ∧
    (s.countStationGood).mach = s.mach ∧ (s.countStationGood).towLine = s.towLine ∧
    (s.countStationGood).coup = s.coup ∧ (s.countStationGood).fuel = s.fuel ∧
    (s.countStationGood).transfer = s.transfer ∧ (s.countStationGood).cond = s.cond ∧
    (s.countStationGood).store = s.store ∧ (s.countStationGood).tx = s.tx ∧
    (s.countStationGood).sent = s.sent ∧ (s.countStationGood).readBack = s.readBack ∧
    (s.countStationGood).draws = s.draws ∧ (s.countStationGood).pending = s.pending := by
  simp [State.countStationGood]

@[simp] theorem State.countMachineryDiscarded_frame (s : State) :
    (s.countMachineryDiscarded).now = s.now ∧ (s.countMachineryDiscarded).epoch = s.epoch ∧
    (s.countMachineryDiscarded).straps = s.straps ∧ (s.countMachineryDiscarded).station = s.station ∧
    (s.countMachineryDiscarded).prop = s.prop ∧ (s.countMachineryDiscarded).steer = s.steer ∧
    (s.countMachineryDiscarded).mach = s.mach ∧ (s.countMachineryDiscarded).towLine = s.towLine ∧
    (s.countMachineryDiscarded).coup = s.coup ∧ (s.countMachineryDiscarded).fuel = s.fuel ∧
    (s.countMachineryDiscarded).transfer = s.transfer ∧ (s.countMachineryDiscarded).cond = s.cond ∧
    (s.countMachineryDiscarded).store = s.store ∧ (s.countMachineryDiscarded).tx = s.tx ∧
    (s.countMachineryDiscarded).sent = s.sent ∧ (s.countMachineryDiscarded).readBack = s.readBack ∧
    (s.countMachineryDiscarded).draws = s.draws ∧ (s.countMachineryDiscarded).pending = s.pending := by
  simp [State.countMachineryDiscarded]

@[simp] theorem State.countMachineryWrongSource_frame (s : State) :
    (s.countMachineryWrongSource).now = s.now ∧ (s.countMachineryWrongSource).epoch = s.epoch ∧
    (s.countMachineryWrongSource).straps = s.straps ∧ (s.countMachineryWrongSource).station = s.station ∧
    (s.countMachineryWrongSource).prop = s.prop ∧ (s.countMachineryWrongSource).steer = s.steer ∧
    (s.countMachineryWrongSource).mach = s.mach ∧ (s.countMachineryWrongSource).towLine = s.towLine ∧
    (s.countMachineryWrongSource).coup = s.coup ∧ (s.countMachineryWrongSource).fuel = s.fuel ∧
    (s.countMachineryWrongSource).transfer = s.transfer ∧ (s.countMachineryWrongSource).cond = s.cond ∧
    (s.countMachineryWrongSource).store = s.store ∧ (s.countMachineryWrongSource).tx = s.tx ∧
    (s.countMachineryWrongSource).sent = s.sent ∧
    (s.countMachineryWrongSource).readBack = s.readBack ∧
    (s.countMachineryWrongSource).draws = s.draws ∧ (s.countMachineryWrongSource).pending = s.pending := by
  simp [State.countMachineryWrongSource]

@[simp] theorem State.countMachineryStray_frame (s : State) :
    (s.countMachineryStray).now = s.now ∧ (s.countMachineryStray).epoch = s.epoch ∧
    (s.countMachineryStray).straps = s.straps ∧ (s.countMachineryStray).station = s.station ∧
    (s.countMachineryStray).prop = s.prop ∧ (s.countMachineryStray).steer = s.steer ∧
    (s.countMachineryStray).mach = s.mach ∧ (s.countMachineryStray).towLine = s.towLine ∧
    (s.countMachineryStray).coup = s.coup ∧ (s.countMachineryStray).fuel = s.fuel ∧
    (s.countMachineryStray).transfer = s.transfer ∧ (s.countMachineryStray).cond = s.cond ∧
    (s.countMachineryStray).store = s.store ∧ (s.countMachineryStray).tx = s.tx ∧
    (s.countMachineryStray).sent = s.sent ∧ (s.countMachineryStray).readBack = s.readBack ∧
    (s.countMachineryStray).draws = s.draws ∧ (s.countMachineryStray).pending = s.pending := by
  simp [State.countMachineryStray]

@[simp] theorem State.countMachineryLate_frame (s : State) :
    (s.countMachineryLate).now = s.now ∧ (s.countMachineryLate).epoch = s.epoch ∧
    (s.countMachineryLate).straps = s.straps ∧ (s.countMachineryLate).station = s.station ∧
    (s.countMachineryLate).prop = s.prop ∧ (s.countMachineryLate).steer = s.steer ∧
    (s.countMachineryLate).mach = s.mach ∧ (s.countMachineryLate).towLine = s.towLine ∧
    (s.countMachineryLate).coup = s.coup ∧ (s.countMachineryLate).fuel = s.fuel ∧
    (s.countMachineryLate).transfer = s.transfer ∧ (s.countMachineryLate).cond = s.cond ∧
    (s.countMachineryLate).store = s.store ∧ (s.countMachineryLate).tx = s.tx ∧
    (s.countMachineryLate).sent = s.sent ∧ (s.countMachineryLate).readBack = s.readBack ∧
    (s.countMachineryLate).draws = s.draws ∧ (s.countMachineryLate).pending = s.pending := by
  simp [State.countMachineryLate]

@[simp] theorem State.countTowDiscarded_frame (s : State) :
    (s.countTowDiscarded).now = s.now ∧ (s.countTowDiscarded).epoch = s.epoch ∧
    (s.countTowDiscarded).straps = s.straps ∧ (s.countTowDiscarded).station = s.station ∧
    (s.countTowDiscarded).prop = s.prop ∧ (s.countTowDiscarded).steer = s.steer ∧
    (s.countTowDiscarded).mach = s.mach ∧ (s.countTowDiscarded).towLine = s.towLine ∧
    (s.countTowDiscarded).coup = s.coup ∧ (s.countTowDiscarded).fuel = s.fuel ∧
    (s.countTowDiscarded).transfer = s.transfer ∧ (s.countTowDiscarded).cond = s.cond ∧
    (s.countTowDiscarded).store = s.store ∧ (s.countTowDiscarded).tx = s.tx ∧
    (s.countTowDiscarded).sent = s.sent ∧ (s.countTowDiscarded).readBack = s.readBack ∧
    (s.countTowDiscarded).draws = s.draws ∧ (s.countTowDiscarded).pending = s.pending := by
  simp [State.countTowDiscarded]

@[simp] theorem State.countTowWrongSource_frame (s : State) :
    (s.countTowWrongSource).now = s.now ∧ (s.countTowWrongSource).epoch = s.epoch ∧
    (s.countTowWrongSource).straps = s.straps ∧ (s.countTowWrongSource).station = s.station ∧
    (s.countTowWrongSource).prop = s.prop ∧ (s.countTowWrongSource).steer = s.steer ∧
    (s.countTowWrongSource).mach = s.mach ∧ (s.countTowWrongSource).towLine = s.towLine ∧
    (s.countTowWrongSource).coup = s.coup ∧ (s.countTowWrongSource).fuel = s.fuel ∧
    (s.countTowWrongSource).transfer = s.transfer ∧ (s.countTowWrongSource).cond = s.cond ∧
    (s.countTowWrongSource).store = s.store ∧ (s.countTowWrongSource).tx = s.tx ∧
    (s.countTowWrongSource).sent = s.sent ∧ (s.countTowWrongSource).readBack = s.readBack ∧
    (s.countTowWrongSource).draws = s.draws ∧ (s.countTowWrongSource).pending = s.pending := by
  simp [State.countTowWrongSource]

@[simp] theorem State.countTowMalformed_frame (s : State) :
    (s.countTowMalformed).now = s.now ∧ (s.countTowMalformed).epoch = s.epoch ∧
    (s.countTowMalformed).straps = s.straps ∧ (s.countTowMalformed).station = s.station ∧
    (s.countTowMalformed).prop = s.prop ∧ (s.countTowMalformed).steer = s.steer ∧
    (s.countTowMalformed).mach = s.mach ∧ (s.countTowMalformed).towLine = s.towLine ∧
    (s.countTowMalformed).coup = s.coup ∧ (s.countTowMalformed).fuel = s.fuel ∧
    (s.countTowMalformed).transfer = s.transfer ∧ (s.countTowMalformed).cond = s.cond ∧
    (s.countTowMalformed).store = s.store ∧ (s.countTowMalformed).tx = s.tx ∧
    (s.countTowMalformed).sent = s.sent ∧ (s.countTowMalformed).readBack = s.readBack ∧
    (s.countTowMalformed).draws = s.draws ∧ (s.countTowMalformed).pending = s.pending := by
  simp [State.countTowMalformed]

@[simp] theorem State.countTowStray_frame (s : State) :
    (s.countTowStray).now = s.now ∧ (s.countTowStray).epoch = s.epoch ∧
    (s.countTowStray).straps = s.straps ∧ (s.countTowStray).station = s.station ∧
    (s.countTowStray).prop = s.prop ∧ (s.countTowStray).steer = s.steer ∧ (s.countTowStray).mach = s.mach ∧
    (s.countTowStray).towLine = s.towLine ∧ (s.countTowStray).coup = s.coup ∧
    (s.countTowStray).fuel = s.fuel ∧ (s.countTowStray).transfer = s.transfer ∧
    (s.countTowStray).cond = s.cond ∧ (s.countTowStray).store = s.store ∧ (s.countTowStray).tx = s.tx ∧
    (s.countTowStray).sent = s.sent ∧ (s.countTowStray).readBack = s.readBack ∧
    (s.countTowStray).draws = s.draws ∧ (s.countTowStray).pending = s.pending := by
  simp [State.countTowStray]

@[simp] theorem State.countTowLate_frame (s : State) :
    (s.countTowLate).now = s.now ∧ (s.countTowLate).epoch = s.epoch ∧ (s.countTowLate).straps = s.straps ∧
    (s.countTowLate).station = s.station ∧ (s.countTowLate).prop = s.prop ∧
    (s.countTowLate).steer = s.steer ∧ (s.countTowLate).mach = s.mach ∧
    (s.countTowLate).towLine = s.towLine ∧ (s.countTowLate).coup = s.coup ∧
    (s.countTowLate).fuel = s.fuel ∧ (s.countTowLate).transfer = s.transfer ∧
    (s.countTowLate).cond = s.cond ∧ (s.countTowLate).store = s.store ∧ (s.countTowLate).tx = s.tx ∧
    (s.countTowLate).sent = s.sent ∧ (s.countTowLate).readBack = s.readBack ∧
    (s.countTowLate).draws = s.draws ∧ (s.countTowLate).pending = s.pending := by
  simp [State.countTowLate]

@[simp] theorem State.sendMachinery_frame (s : State) (dst kind : Nat) (payload : Bytes) :
    (s.sendMachinery dst kind payload).now = s.now ∧ (s.sendMachinery dst kind payload).epoch = s.epoch ∧
    (s.sendMachinery dst kind payload).straps = s.straps ∧
    (s.sendMachinery dst kind payload).station = s.station ∧
    (s.sendMachinery dst kind payload).prop = s.prop ∧ (s.sendMachinery dst kind payload).steer = s.steer ∧
    (s.sendMachinery dst kind payload).mach = s.mach ∧
    (s.sendMachinery dst kind payload).towLine = s.towLine ∧
    (s.sendMachinery dst kind payload).coup = s.coup ∧ (s.sendMachinery dst kind payload).fuel = s.fuel ∧
    (s.sendMachinery dst kind payload).transfer = s.transfer ∧
    (s.sendMachinery dst kind payload).cond = s.cond ∧ (s.sendMachinery dst kind payload).store = s.store ∧
    (s.sendMachinery dst kind payload).lines = s.lines ∧ (s.sendMachinery dst kind payload).tx = s.tx ∧
    (s.sendMachinery dst kind payload).readBack = s.readBack ∧
    (s.sendMachinery dst kind payload).draws = s.draws ∧
    (s.sendMachinery dst kind payload).pending = s.pending := by
  simp [State.sendMachinery]

@[simp] theorem State.sendTow_frame (s : State) (dst kind : Nat) (payload : Bytes) :
    (s.sendTow dst kind payload).now = s.now ∧ (s.sendTow dst kind payload).epoch = s.epoch ∧
    (s.sendTow dst kind payload).straps = s.straps ∧ (s.sendTow dst kind payload).station = s.station ∧
    (s.sendTow dst kind payload).prop = s.prop ∧ (s.sendTow dst kind payload).steer = s.steer ∧
    (s.sendTow dst kind payload).mach = s.mach ∧ (s.sendTow dst kind payload).towLine = s.towLine ∧
    (s.sendTow dst kind payload).coup = s.coup ∧ (s.sendTow dst kind payload).fuel = s.fuel ∧
    (s.sendTow dst kind payload).transfer = s.transfer ∧ (s.sendTow dst kind payload).cond = s.cond ∧
    (s.sendTow dst kind payload).store = s.store ∧ (s.sendTow dst kind payload).lines = s.lines ∧
    (s.sendTow dst kind payload).tx = s.tx ∧ (s.sendTow dst kind payload).readBack = s.readBack ∧
    (s.sendTow dst kind payload).draws = s.draws ∧ (s.sendTow dst kind payload).pending = s.pending := by
  simp [State.sendTow]

@[simp] theorem State.sendStation_frame (s : State) (f : Frame) (second : Bool) :
    (s.sendStation f second).now = s.now ∧ (s.sendStation f second).epoch = s.epoch ∧
    (s.sendStation f second).straps = s.straps ∧ (s.sendStation f second).station = s.station ∧
    (s.sendStation f second).prop = s.prop ∧ (s.sendStation f second).steer = s.steer ∧
    (s.sendStation f second).mach = s.mach ∧ (s.sendStation f second).towLine = s.towLine ∧
    (s.sendStation f second).coup = s.coup ∧ (s.sendStation f second).fuel = s.fuel ∧
    (s.sendStation f second).transfer = s.transfer ∧ (s.sendStation f second).cond = s.cond ∧
    (s.sendStation f second).store = s.store ∧ (s.sendStation f second).lines = s.lines ∧
    (s.sendStation f second).readBack = s.readBack ∧ (s.sendStation f second).draws = s.draws ∧
    (s.sendStation f second).pending = s.pending := by
  simp [State.sendStation]

@[simp] theorem State.countCorrected_frame (s : State) (n : Nat) :
    (s.countCorrected n).now = s.now ∧ (s.countCorrected n).epoch = s.epoch ∧
    (s.countCorrected n).straps = s.straps ∧ (s.countCorrected n).station = s.station ∧
    (s.countCorrected n).prop = s.prop ∧ (s.countCorrected n).steer = s.steer ∧
    (s.countCorrected n).mach = s.mach ∧ (s.countCorrected n).towLine = s.towLine ∧
    (s.countCorrected n).coup = s.coup ∧ (s.countCorrected n).fuel = s.fuel ∧
    (s.countCorrected n).transfer = s.transfer ∧ (s.countCorrected n).cond = s.cond ∧
    (s.countCorrected n).lines = s.lines ∧ (s.countCorrected n).tx = s.tx ∧
    (s.countCorrected n).sent = s.sent ∧ (s.countCorrected n).readBack = s.readBack ∧
    (s.countCorrected n).draws = s.draws ∧ (s.countCorrected n).pending = s.pending := by
  simp [State.countCorrected]

@[simp] theorem State.readBackRegion_frame (s : State) (r : Region) :
    (s.readBackRegion r).now = s.now ∧ (s.readBackRegion r).epoch = s.epoch ∧
    (s.readBackRegion r).straps = s.straps ∧ (s.readBackRegion r).station = s.station ∧
    (s.readBackRegion r).prop = s.prop ∧ (s.readBackRegion r).steer = s.steer ∧
    (s.readBackRegion r).mach = s.mach ∧ (s.readBackRegion r).towLine = s.towLine ∧
    (s.readBackRegion r).coup = s.coup ∧ (s.readBackRegion r).fuel = s.fuel ∧
    (s.readBackRegion r).transfer = s.transfer ∧ (s.readBackRegion r).cond = s.cond ∧
    (s.readBackRegion r).lines = s.lines ∧ (s.readBackRegion r).tx = s.tx ∧
    (s.readBackRegion r).sent = s.sent ∧ (s.readBackRegion r).readBack = s.readBack ∧
    (s.readBackRegion r).draws = s.draws ∧ (s.readBackRegion r).pending = s.pending := by
  simp [State.readBackRegion]

@[simp] theorem State.writeRetained_frame (s : State) (i : StoreItem) (f : Retained → Retained) :
    (s.writeRetained i f).now = s.now ∧ (s.writeRetained i f).epoch = s.epoch ∧
    (s.writeRetained i f).straps = s.straps ∧ (s.writeRetained i f).station = s.station ∧
    (s.writeRetained i f).prop = s.prop ∧ (s.writeRetained i f).steer = s.steer ∧
    (s.writeRetained i f).mach = s.mach ∧ (s.writeRetained i f).towLine = s.towLine ∧
    (s.writeRetained i f).coup = s.coup ∧ (s.writeRetained i f).fuel = s.fuel ∧
    (s.writeRetained i f).transfer = s.transfer ∧ (s.writeRetained i f).cond = s.cond ∧
    (s.writeRetained i f).lines = s.lines ∧ (s.writeRetained i f).tx = s.tx ∧
    (s.writeRetained i f).sent = s.sent ∧ (s.writeRetained i f).readBack = s.readBack ∧
    (s.writeRetained i f).draws = s.draws ∧ (s.writeRetained i f).pending = s.pending := by
  unfold State.writeRetained
  repeat' (first | split | (dsimp only; split))
  all_goals simp

@[simp] theorem State.writeTable_frame (s : State) (id : Fin 13) (image : Bytes) (crc : Nat) :
    (s.writeTable id image crc).now = s.now ∧ (s.writeTable id image crc).epoch = s.epoch ∧
    (s.writeTable id image crc).straps = s.straps ∧ (s.writeTable id image crc).station = s.station ∧
    (s.writeTable id image crc).prop = s.prop ∧ (s.writeTable id image crc).steer = s.steer ∧
    (s.writeTable id image crc).mach = s.mach ∧ (s.writeTable id image crc).towLine = s.towLine ∧
    (s.writeTable id image crc).coup = s.coup ∧ (s.writeTable id image crc).fuel = s.fuel ∧
    (s.writeTable id image crc).transfer = s.transfer ∧ (s.writeTable id image crc).cond = s.cond ∧
    (s.writeTable id image crc).lines = s.lines ∧ (s.writeTable id image crc).tx = s.tx ∧
    (s.writeTable id image crc).sent = s.sent ∧ (s.writeTable id image crc).readBack = s.readBack ∧
    (s.writeTable id image crc).draws = s.draws ∧ (s.writeTable id image crc).pending = s.pending := by
  unfold State.writeTable
  repeat' (first | split | (dsimp only; split))
  all_goals simp

@[simp] theorem State.wholeReport_frame (s : State) (fields : Nat) (b : Bytes) :
    ((s.wholeReport fields b).2).now = s.now ∧ ((s.wholeReport fields b).2).epoch = s.epoch ∧
    ((s.wholeReport fields b).2).straps = s.straps ∧ ((s.wholeReport fields b).2).station = s.station ∧
    ((s.wholeReport fields b).2).prop = s.prop ∧ ((s.wholeReport fields b).2).steer = s.steer ∧
    ((s.wholeReport fields b).2).mach = s.mach ∧ ((s.wholeReport fields b).2).towLine = s.towLine ∧
    ((s.wholeReport fields b).2).coup = s.coup ∧ ((s.wholeReport fields b).2).fuel = s.fuel ∧
    ((s.wholeReport fields b).2).transfer = s.transfer ∧ ((s.wholeReport fields b).2).cond = s.cond ∧
    ((s.wholeReport fields b).2).store = s.store ∧ ((s.wholeReport fields b).2).lines = s.lines ∧
    ((s.wholeReport fields b).2).tx = s.tx ∧ ((s.wholeReport fields b).2).sent = s.sent ∧
    ((s.wholeReport fields b).2).readBack = s.readBack ∧
    ((s.wholeReport fields b).2).pending = s.pending := by
  unfold State.wholeReport
  repeat' (first | split | (dsimp only; split))
  all_goals simp

@[simp] theorem State.gapChoice_frame (s : State) :
    ((s.gapChoice).2).now = s.now ∧ ((s.gapChoice).2).epoch = s.epoch ∧
    ((s.gapChoice).2).straps = s.straps ∧ ((s.gapChoice).2).station = s.station ∧
    ((s.gapChoice).2).prop = s.prop ∧ ((s.gapChoice).2).steer = s.steer ∧ ((s.gapChoice).2).mach = s.mach ∧
    ((s.gapChoice).2).towLine = s.towLine ∧ ((s.gapChoice).2).coup = s.coup ∧
    ((s.gapChoice).2).fuel = s.fuel ∧ ((s.gapChoice).2).transfer = s.transfer ∧
    ((s.gapChoice).2).cond = s.cond ∧ ((s.gapChoice).2).store = s.store ∧
    ((s.gapChoice).2).lines = s.lines ∧ ((s.gapChoice).2).tx = s.tx ∧ ((s.gapChoice).2).sent = s.sent ∧
    ((s.gapChoice).2).readBack = s.readBack ∧ ((s.gapChoice).2).pending = s.pending := by
  simp [State.gapChoice]

/-! ## Operations of Machine/Flags.lean -/

@[simp] theorem State.setSource_frame (s : State) (code : Nat) (active : Bool) :
    (s.setSource code active).now = s.now ∧ (s.setSource code active).epoch = s.epoch ∧
    (s.setSource code active).straps = s.straps ∧ (s.setSource code active).station = s.station ∧
    (s.setSource code active).prop = s.prop ∧ (s.setSource code active).steer = s.steer ∧
    (s.setSource code active).mach = s.mach ∧ (s.setSource code active).towLine = s.towLine ∧
    (s.setSource code active).coup = s.coup ∧ (s.setSource code active).fuel = s.fuel ∧
    (s.setSource code active).transfer = s.transfer ∧ (s.setSource code active).store = s.store ∧
    (s.setSource code active).lines = s.lines ∧ (s.setSource code active).tx = s.tx ∧
    (s.setSource code active).sent = s.sent ∧ (s.setSource code active).readBack = s.readBack ∧
    (s.setSource code active).draws = s.draws ∧ (s.setSource code active).pending = s.pending := by
  unfold State.setSource
  repeat' (first | split | (dsimp only; split))
  all_goals simp

@[simp] theorem State.acknowledge_frame (s : State) (i : Fin 45) :
    (s.acknowledge i).now = s.now ∧ (s.acknowledge i).epoch = s.epoch ∧
    (s.acknowledge i).straps = s.straps ∧ (s.acknowledge i).station = s.station ∧
    (s.acknowledge i).prop = s.prop ∧ (s.acknowledge i).steer = s.steer ∧ (s.acknowledge i).mach = s.mach ∧
    (s.acknowledge i).towLine = s.towLine ∧ (s.acknowledge i).coup = s.coup ∧
    (s.acknowledge i).fuel = s.fuel ∧ (s.acknowledge i).transfer = s.transfer ∧
    (s.acknowledge i).store = s.store ∧ (s.acknowledge i).lines = s.lines ∧ (s.acknowledge i).tx = s.tx ∧
    (s.acknowledge i).sent = s.sent ∧ (s.acknowledge i).readBack = s.readBack ∧
    (s.acknowledge i).draws = s.draws ∧ (s.acknowledge i).pending = s.pending := by
  simp [State.acknowledge]

@[simp] theorem State.ackHighest_frame (s : State) :
    (s.ackHighest).now = s.now ∧ (s.ackHighest).epoch = s.epoch ∧ (s.ackHighest).straps = s.straps ∧
    (s.ackHighest).station = s.station ∧ (s.ackHighest).prop = s.prop ∧ (s.ackHighest).steer = s.steer ∧
    (s.ackHighest).mach = s.mach ∧ (s.ackHighest).towLine = s.towLine ∧ (s.ackHighest).coup = s.coup ∧
    (s.ackHighest).fuel = s.fuel ∧ (s.ackHighest).transfer = s.transfer ∧ (s.ackHighest).store = s.store ∧
    (s.ackHighest).lines = s.lines ∧ (s.ackHighest).tx = s.tx ∧ (s.ackHighest).sent = s.sent ∧
    (s.ackHighest).readBack = s.readBack ∧ (s.ackHighest).draws = s.draws ∧
    (s.ackHighest).pending = s.pending := by
  unfold State.ackHighest
  repeat' (first | split | (dsimp only; split))
  all_goals simp

@[simp] theorem State.evalTableFault_frame (s : State) :
    (s.evalTableFault).now = s.now ∧ (s.evalTableFault).epoch = s.epoch ∧
    (s.evalTableFault).straps = s.straps ∧ (s.evalTableFault).station = s.station ∧
    (s.evalTableFault).prop = s.prop ∧ (s.evalTableFault).steer = s.steer ∧
    (s.evalTableFault).mach = s.mach ∧ (s.evalTableFault).towLine = s.towLine ∧
    (s.evalTableFault).coup = s.coup ∧ (s.evalTableFault).fuel = s.fuel ∧
    (s.evalTableFault).transfer = s.transfer ∧ (s.evalTableFault).store = s.store ∧
    (s.evalTableFault).lines = s.lines ∧ (s.evalTableFault).tx = s.tx ∧ (s.evalTableFault).sent = s.sent ∧
    (s.evalTableFault).readBack = s.readBack ∧ (s.evalTableFault).draws = s.draws ∧
    (s.evalTableFault).pending = s.pending := by
  simp [State.evalTableFault]

@[simp] theorem State.evalTableMissing_frame (s : State) :
    (s.evalTableMissing).now = s.now ∧ (s.evalTableMissing).epoch = s.epoch ∧
    (s.evalTableMissing).straps = s.straps ∧ (s.evalTableMissing).station = s.station ∧
    (s.evalTableMissing).prop = s.prop ∧ (s.evalTableMissing).steer = s.steer ∧
    (s.evalTableMissing).mach = s.mach ∧ (s.evalTableMissing).towLine = s.towLine ∧
    (s.evalTableMissing).coup = s.coup ∧ (s.evalTableMissing).fuel = s.fuel ∧
    (s.evalTableMissing).transfer = s.transfer ∧ (s.evalTableMissing).store = s.store ∧
    (s.evalTableMissing).lines = s.lines ∧ (s.evalTableMissing).tx = s.tx ∧
    (s.evalTableMissing).sent = s.sent ∧ (s.evalTableMissing).readBack = s.readBack ∧
    (s.evalTableMissing).draws = s.draws ∧ (s.evalTableMissing).pending = s.pending := by
  simp [State.evalTableMissing]

@[simp] theorem State.evalAccountInvalid_frame (s : State) :
    (s.evalAccountInvalid).now = s.now ∧ (s.evalAccountInvalid).epoch = s.epoch ∧
    (s.evalAccountInvalid).straps = s.straps ∧ (s.evalAccountInvalid).station = s.station ∧
    (s.evalAccountInvalid).prop = s.prop ∧ (s.evalAccountInvalid).steer = s.steer ∧
    (s.evalAccountInvalid).mach = s.mach ∧ (s.evalAccountInvalid).towLine = s.towLine ∧
    (s.evalAccountInvalid).coup = s.coup ∧ (s.evalAccountInvalid).fuel = s.fuel ∧
    (s.evalAccountInvalid).transfer = s.transfer ∧ (s.evalAccountInvalid).store = s.store ∧
    (s.evalAccountInvalid).lines = s.lines ∧ (s.evalAccountInvalid).tx = s.tx ∧
    (s.evalAccountInvalid).sent = s.sent ∧ (s.evalAccountInvalid).readBack = s.readBack ∧
    (s.evalAccountInvalid).draws = s.draws ∧ (s.evalAccountInvalid).pending = s.pending := by
  simp [State.evalAccountInvalid]

/-! ## Operations of Machine/Propulsion.lean -/

@[simp] theorem State.evalSyncDropped_frame (s : State) :
    (s.evalSyncDropped).now = s.now ∧ (s.evalSyncDropped).epoch = s.epoch ∧
    (s.evalSyncDropped).straps = s.straps ∧ (s.evalSyncDropped).station = s.station ∧
    (s.evalSyncDropped).prop = s.prop ∧ (s.evalSyncDropped).steer = s.steer ∧
    (s.evalSyncDropped).mach = s.mach ∧ (s.evalSyncDropped).towLine = s.towLine ∧
    (s.evalSyncDropped).coup = s.coup ∧ (s.evalSyncDropped).fuel = s.fuel ∧
    (s.evalSyncDropped).transfer = s.transfer ∧ (s.evalSyncDropped).store = s.store ∧
    (s.evalSyncDropped).lines = s.lines ∧ (s.evalSyncDropped).tx = s.tx ∧
    (s.evalSyncDropped).sent = s.sent ∧ (s.evalSyncDropped).readBack = s.readBack ∧
    (s.evalSyncDropped).draws = s.draws ∧ (s.evalSyncDropped).pending = s.pending := by
  simp [State.evalSyncDropped]

@[simp] theorem State.changeLead_frame (s : State) (c : Fin 4) (old new : Option (Fin 4)) :
    (s.changeLead c old new).now = s.now ∧ (s.changeLead c old new).epoch = s.epoch ∧
    (s.changeLead c old new).straps = s.straps ∧ (s.changeLead c old new).station = s.station ∧
    (s.changeLead c old new).steer = s.steer ∧ (s.changeLead c old new).mach = s.mach ∧
    (s.changeLead c old new).towLine = s.towLine ∧ (s.changeLead c old new).coup = s.coup ∧
    (s.changeLead c old new).fuel = s.fuel ∧ (s.changeLead c old new).transfer = s.transfer ∧
    (s.changeLead c old new).cond = s.cond ∧ (s.changeLead c old new).store = s.store ∧
    (s.changeLead c old new).lines = s.lines ∧ (s.changeLead c old new).tx = s.tx ∧
    (s.changeLead c old new).sent = s.sent ∧ (s.changeLead c old new).readBack = s.readBack ∧
    (s.changeLead c old new).draws = s.draws ∧ (s.changeLead c old new).pending = s.pending := by
  unfold State.changeLead
  split <;> simp [State.foldl_now, State.foldl_epoch, State.foldl_straps, State.foldl_station,
    State.foldl_steer, State.foldl_mach, State.foldl_towLine, State.foldl_coup, State.foldl_fuel,
    State.foldl_transfer, State.foldl_cond, State.foldl_store, State.foldl_lines, State.foldl_tx,
    State.foldl_sent, State.foldl_readBack, State.foldl_draws, State.foldl_pending, apply_ite State.now,
    apply_ite State.epoch, apply_ite State.straps, apply_ite State.station, apply_ite State.steer,
    apply_ite State.mach, apply_ite State.towLine, apply_ite State.coup, apply_ite State.fuel,
    apply_ite State.transfer, apply_ite State.cond, apply_ite State.store, apply_ite State.lines,
    apply_ite State.tx, apply_ite State.sent, apply_ite State.readBack, apply_ite State.draws,
    apply_ite State.pending]

@[simp] theorem State.reLead_frame (s : State) (c : Fin 4) :
    (s.reLead c).now = s.now ∧ (s.reLead c).epoch = s.epoch ∧ (s.reLead c).straps = s.straps ∧
    (s.reLead c).station = s.station ∧ (s.reLead c).steer = s.steer ∧ (s.reLead c).mach = s.mach ∧
    (s.reLead c).towLine = s.towLine ∧ (s.reLead c).coup = s.coup ∧ (s.reLead c).fuel = s.fuel ∧
    (s.reLead c).transfer = s.transfer ∧ (s.reLead c).store = s.store ∧ (s.reLead c).lines = s.lines ∧
    (s.reLead c).tx = s.tx ∧ (s.reLead c).sent = s.sent ∧ (s.reLead c).readBack = s.readBack ∧
    (s.reLead c).draws = s.draws ∧ (s.reLead c).pending = s.pending := by
  unfold State.reLead
  repeat' (first | split | (dsimp only; split))
  all_goals simp

@[simp] theorem State.reLeadOf_frame (s : State) (n : Fin 4) :
    (s.reLeadOf n).now = s.now ∧ (s.reLeadOf n).epoch = s.epoch ∧ (s.reLeadOf n).straps = s.straps ∧
    (s.reLeadOf n).station = s.station ∧ (s.reLeadOf n).steer = s.steer ∧ (s.reLeadOf n).mach = s.mach ∧
    (s.reLeadOf n).towLine = s.towLine ∧ (s.reLeadOf n).coup = s.coup ∧ (s.reLeadOf n).fuel = s.fuel ∧
    (s.reLeadOf n).transfer = s.transfer ∧ (s.reLeadOf n).store = s.store ∧
    (s.reLeadOf n).lines = s.lines ∧ (s.reLeadOf n).tx = s.tx ∧ (s.reLeadOf n).sent = s.sent ∧
    (s.reLeadOf n).readBack = s.readBack ∧ (s.reLeadOf n).draws = s.draws ∧
    (s.reLeadOf n).pending = s.pending := by
  unfold State.reLeadOf
  repeat' (first | split | (dsimp only; split))
  all_goals simp

@[simp] theorem State.armSync_frame (s : State) (c : Fin 4) :
    (s.armSync c).now = s.now ∧ (s.armSync c).epoch = s.epoch ∧ (s.armSync c).straps = s.straps ∧
    (s.armSync c).station = s.station ∧ (s.armSync c).steer = s.steer ∧ (s.armSync c).mach = s.mach ∧
    (s.armSync c).towLine = s.towLine ∧ (s.armSync c).coup = s.coup ∧ (s.armSync c).fuel = s.fuel ∧
    (s.armSync c).transfer = s.transfer ∧ (s.armSync c).store = s.store ∧ (s.armSync c).lines = s.lines ∧
    (s.armSync c).tx = s.tx ∧ (s.armSync c).sent = s.sent ∧ (s.armSync c).readBack = s.readBack ∧
    (s.armSync c).draws = s.draws ∧ (s.armSync c).pending = s.pending := by
  simp [State.armSync, State.foldl_now, State.foldl_epoch, State.foldl_straps, State.foldl_station,
    State.foldl_steer, State.foldl_mach, State.foldl_towLine, State.foldl_coup, State.foldl_fuel,
    State.foldl_transfer, State.foldl_store, State.foldl_lines, State.foldl_tx, State.foldl_sent,
    State.foldl_readBack, State.foldl_draws, State.foldl_pending, apply_ite State.now,
    apply_ite State.epoch, apply_ite State.straps, apply_ite State.station, apply_ite State.steer,
    apply_ite State.mach, apply_ite State.towLine, apply_ite State.coup, apply_ite State.fuel,
    apply_ite State.transfer, apply_ite State.store, apply_ite State.lines, apply_ite State.tx,
    apply_ite State.sent, apply_ite State.readBack, apply_ite State.draws, apply_ite State.pending]

@[simp] theorem State.disarmSync_frame (s : State) (c : Fin 4) :
    (s.disarmSync c).now = s.now ∧ (s.disarmSync c).epoch = s.epoch ∧ (s.disarmSync c).straps = s.straps ∧
    (s.disarmSync c).station = s.station ∧ (s.disarmSync c).steer = s.steer ∧
    (s.disarmSync c).mach = s.mach ∧ (s.disarmSync c).towLine = s.towLine ∧
    (s.disarmSync c).coup = s.coup ∧ (s.disarmSync c).fuel = s.fuel ∧
    (s.disarmSync c).transfer = s.transfer ∧ (s.disarmSync c).store = s.store ∧
    (s.disarmSync c).lines = s.lines ∧ (s.disarmSync c).tx = s.tx ∧ (s.disarmSync c).sent = s.sent ∧
    (s.disarmSync c).readBack = s.readBack ∧ (s.disarmSync c).draws = s.draws ∧
    (s.disarmSync c).pending = s.pending := by
  simp [State.disarmSync, State.foldl_now, State.foldl_epoch, State.foldl_straps, State.foldl_station,
    State.foldl_steer, State.foldl_mach, State.foldl_towLine, State.foldl_coup, State.foldl_fuel,
    State.foldl_transfer, State.foldl_store, State.foldl_lines, State.foldl_tx, State.foldl_sent,
    State.foldl_readBack, State.foldl_draws, State.foldl_pending, apply_ite State.now,
    apply_ite State.epoch, apply_ite State.straps, apply_ite State.station, apply_ite State.steer,
    apply_ite State.mach, apply_ite State.towLine, apply_ite State.coup, apply_ite State.fuel,
    apply_ite State.transfer, apply_ite State.store, apply_ite State.lines, apply_ite State.tx,
    apply_ite State.sent, apply_ite State.readBack, apply_ite State.draws, apply_ite State.pending]

@[simp] theorem State.clearGearFault_frame (s : State) (n : Fin 4) :
    (s.clearGearFault n).now = s.now ∧ (s.clearGearFault n).epoch = s.epoch ∧
    (s.clearGearFault n).straps = s.straps ∧ (s.clearGearFault n).station = s.station ∧
    (s.clearGearFault n).steer = s.steer ∧ (s.clearGearFault n).mach = s.mach ∧
    (s.clearGearFault n).towLine = s.towLine ∧ (s.clearGearFault n).coup = s.coup ∧
    (s.clearGearFault n).fuel = s.fuel ∧ (s.clearGearFault n).transfer = s.transfer ∧
    (s.clearGearFault n).store = s.store ∧ (s.clearGearFault n).lines = s.lines ∧
    (s.clearGearFault n).tx = s.tx ∧ (s.clearGearFault n).sent = s.sent ∧
    (s.clearGearFault n).readBack = s.readBack ∧ (s.clearGearFault n).draws = s.draws ∧
    (s.clearGearFault n).pending = s.pending := by
  unfold State.clearGearFault
  repeat' (first | split | (dsimp only; split))
  all_goals simp

@[simp] theorem State.clearAllGearFaults_frame (s : State) :
    (s.clearAllGearFaults).now = s.now ∧ (s.clearAllGearFaults).epoch = s.epoch ∧
    (s.clearAllGearFaults).straps = s.straps ∧ (s.clearAllGearFaults).station = s.station ∧
    (s.clearAllGearFaults).steer = s.steer ∧ (s.clearAllGearFaults).mach = s.mach ∧
    (s.clearAllGearFaults).towLine = s.towLine ∧ (s.clearAllGearFaults).coup = s.coup ∧
    (s.clearAllGearFaults).fuel = s.fuel ∧ (s.clearAllGearFaults).transfer = s.transfer ∧
    (s.clearAllGearFaults).store = s.store ∧ (s.clearAllGearFaults).lines = s.lines ∧
    (s.clearAllGearFaults).tx = s.tx ∧ (s.clearAllGearFaults).sent = s.sent ∧
    (s.clearAllGearFaults).readBack = s.readBack ∧ (s.clearAllGearFaults).draws = s.draws ∧
    (s.clearAllGearFaults).pending = s.pending := by
  simp [State.clearAllGearFaults, State.foldl_now, State.foldl_epoch, State.foldl_straps,
    State.foldl_station, State.foldl_steer, State.foldl_mach, State.foldl_towLine, State.foldl_coup,
    State.foldl_fuel, State.foldl_transfer, State.foldl_store, State.foldl_lines, State.foldl_tx,
    State.foldl_sent, State.foldl_readBack, State.foldl_draws, State.foldl_pending]

@[simp] theorem State.stageTrim_frame (s : State) (n c : Fin 4) :
    (s.stageTrim n c).now = s.now ∧ (s.stageTrim n c).epoch = s.epoch ∧
    (s.stageTrim n c).straps = s.straps ∧ (s.stageTrim n c).station = s.station ∧
    (s.stageTrim n c).steer = s.steer ∧ (s.stageTrim n c).mach = s.mach ∧
    (s.stageTrim n c).towLine = s.towLine ∧ (s.stageTrim n c).coup = s.coup ∧
    (s.stageTrim n c).fuel = s.fuel ∧ (s.stageTrim n c).transfer = s.transfer ∧
    (s.stageTrim n c).store = s.store ∧ (s.stageTrim n c).lines = s.lines ∧ (s.stageTrim n c).tx = s.tx ∧
    (s.stageTrim n c).sent = s.sent ∧ (s.stageTrim n c).readBack = s.readBack ∧
    (s.stageTrim n c).draws = s.draws ∧ (s.stageTrim n c).pending = s.pending := by
  unfold State.stageTrim
  repeat' (first | split | (dsimp only; split))
  all_goals simp

@[simp] theorem State.faultByLever_frame (s : State) (n : Fin 4) (l : Int) (dead : Nat) :
    (s.faultByLever n l dead).now = s.now ∧ (s.faultByLever n l dead).epoch = s.epoch ∧
    (s.faultByLever n l dead).straps = s.straps ∧ (s.faultByLever n l dead).station = s.station ∧
    (s.faultByLever n l dead).steer = s.steer ∧ (s.faultByLever n l dead).mach = s.mach ∧
    (s.faultByLever n l dead).towLine = s.towLine ∧ (s.faultByLever n l dead).coup = s.coup ∧
    (s.faultByLever n l dead).fuel = s.fuel ∧ (s.faultByLever n l dead).transfer = s.transfer ∧
    (s.faultByLever n l dead).store = s.store ∧ (s.faultByLever n l dead).lines = s.lines ∧
    (s.faultByLever n l dead).tx = s.tx ∧ (s.faultByLever n l dead).sent = s.sent ∧
    (s.faultByLever n l dead).readBack = s.readBack ∧ (s.faultByLever n l dead).draws = s.draws ∧
    (s.faultByLever n l dead).pending = s.pending := by
  unfold State.faultByLever
  repeat' (first | split | (dsimp only; split))
  all_goals simp

@[simp] theorem State.demand_frame (s : State) (n : Fin 4) (e : EngineEntry) (interval cEff : Nat) :
    ((s.demand n e interval cEff).2).now = s.now ∧ ((s.demand n e interval cEff).2).epoch = s.epoch ∧
    ((s.demand n e interval cEff).2).straps = s.straps ∧
    ((s.demand n e interval cEff).2).station = s.station ∧
    ((s.demand n e interval cEff).2).steer = s.steer ∧ ((s.demand n e interval cEff).2).mach = s.mach ∧
    ((s.demand n e interval cEff).2).towLine = s.towLine ∧ ((s.demand n e interval cEff).2).coup = s.coup ∧
    ((s.demand n e interval cEff).2).fuel = s.fuel ∧
    ((s.demand n e interval cEff).2).transfer = s.transfer ∧
    ((s.demand n e interval cEff).2).store = s.store ∧ ((s.demand n e interval cEff).2).lines = s.lines ∧
    ((s.demand n e interval cEff).2).tx = s.tx ∧ ((s.demand n e interval cEff).2).sent = s.sent ∧
    ((s.demand n e interval cEff).2).readBack = s.readBack ∧
    ((s.demand n e interval cEff).2).draws = s.draws ∧ ((s.demand n e interval cEff).2).pending = s.pending := by
  simp [State.demand]

@[simp] theorem State.engineReport_frame (s : State) (n : Fin 4) (e : EngineEntry) (r : EngineReport) :
    (s.engineReport n e r).now = s.now ∧ (s.engineReport n e r).epoch = s.epoch ∧
    (s.engineReport n e r).straps = s.straps ∧ (s.engineReport n e r).station = s.station ∧
    (s.engineReport n e r).steer = s.steer ∧ (s.engineReport n e r).mach = s.mach ∧
    (s.engineReport n e r).towLine = s.towLine ∧ (s.engineReport n e r).coup = s.coup ∧
    (s.engineReport n e r).fuel = s.fuel ∧ (s.engineReport n e r).transfer = s.transfer ∧
    (s.engineReport n e r).store = s.store ∧ (s.engineReport n e r).lines = s.lines ∧
    (s.engineReport n e r).tx = s.tx ∧ (s.engineReport n e r).sent = s.sent ∧
    (s.engineReport n e r).readBack = s.readBack ∧ (s.engineReport n e r).draws = s.draws ∧
    (s.engineReport n e r).pending = s.pending := by
  simp [State.engineReport]

@[simp] theorem State.engineMiss_frame (s : State) (n : Fin 4) :
    (s.engineMiss n).now = s.now ∧ (s.engineMiss n).epoch = s.epoch ∧ (s.engineMiss n).straps = s.straps ∧
    (s.engineMiss n).station = s.station ∧ (s.engineMiss n).steer = s.steer ∧
    (s.engineMiss n).mach = s.mach ∧ (s.engineMiss n).towLine = s.towLine ∧
    (s.engineMiss n).coup = s.coup ∧ (s.engineMiss n).fuel = s.fuel ∧
    (s.engineMiss n).transfer = s.transfer ∧ (s.engineMiss n).cond = s.cond ∧
    (s.engineMiss n).store = s.store ∧ (s.engineMiss n).lines = s.lines ∧ (s.engineMiss n).tx = s.tx ∧
    (s.engineMiss n).sent = s.sent ∧ (s.engineMiss n).readBack = s.readBack ∧
    (s.engineMiss n).draws = s.draws ∧ (s.engineMiss n).pending = s.pending := by
  simp [State.engineMiss]

@[simp] theorem State.engineNode_frame (s : State) (n : Fin 4) (lost : Bool) :
    (s.engineNode n lost).now = s.now ∧ (s.engineNode n lost).epoch = s.epoch ∧
    (s.engineNode n lost).straps = s.straps ∧ (s.engineNode n lost).station = s.station ∧
    (s.engineNode n lost).steer = s.steer ∧ (s.engineNode n lost).mach = s.mach ∧
    (s.engineNode n lost).towLine = s.towLine ∧ (s.engineNode n lost).coup = s.coup ∧
    (s.engineNode n lost).fuel = s.fuel ∧ (s.engineNode n lost).transfer = s.transfer ∧
    (s.engineNode n lost).store = s.store ∧ (s.engineNode n lost).lines = s.lines ∧
    (s.engineNode n lost).tx = s.tx ∧ (s.engineNode n lost).sent = s.sent ∧
    (s.engineNode n lost).readBack = s.readBack ∧ (s.engineNode n lost).draws = s.draws ∧
    (s.engineNode n lost).pending = s.pending := by
  unfold State.engineNode
  repeat' (first | split | (dsimp only; split))
  all_goals simp

@[simp] theorem State.dwellExpires_frame (s : State) (n : Fin 4) :
    (s.dwellExpires n).epoch = s.epoch ∧ (s.dwellExpires n).straps = s.straps ∧
    (s.dwellExpires n).station = s.station ∧ (s.dwellExpires n).steer = s.steer ∧
    (s.dwellExpires n).mach = s.mach ∧ (s.dwellExpires n).towLine = s.towLine ∧
    (s.dwellExpires n).coup = s.coup ∧ (s.dwellExpires n).fuel = s.fuel ∧
    (s.dwellExpires n).transfer = s.transfer ∧ (s.dwellExpires n).cond = s.cond ∧
    (s.dwellExpires n).store = s.store ∧ (s.dwellExpires n).lines = s.lines ∧
    (s.dwellExpires n).tx = s.tx ∧ (s.dwellExpires n).sent = s.sent ∧
    (s.dwellExpires n).readBack = s.readBack ∧ (s.dwellExpires n).draws = s.draws ∧
    (s.dwellExpires n).pending = s.pending := by
  unfold State.dwellExpires
  repeat' (first | split | (dsimp only; split))
  all_goals simp

@[simp] theorem State.confirmExpires_frame (s : State) (n : Fin 4) :
    (s.confirmExpires n).epoch = s.epoch ∧ (s.confirmExpires n).straps = s.straps ∧
    (s.confirmExpires n).station = s.station ∧ (s.confirmExpires n).steer = s.steer ∧
    (s.confirmExpires n).mach = s.mach ∧ (s.confirmExpires n).towLine = s.towLine ∧
    (s.confirmExpires n).coup = s.coup ∧ (s.confirmExpires n).fuel = s.fuel ∧
    (s.confirmExpires n).transfer = s.transfer ∧ (s.confirmExpires n).store = s.store ∧
    (s.confirmExpires n).lines = s.lines ∧ (s.confirmExpires n).tx = s.tx ∧
    (s.confirmExpires n).sent = s.sent ∧ (s.confirmExpires n).readBack = s.readBack ∧
    (s.confirmExpires n).draws = s.draws ∧ (s.confirmExpires n).pending = s.pending := by
  unfold State.confirmExpires
  repeat' (first | split | (dsimp only; split))
  all_goals simp

@[simp] theorem State.resetProp_frame (s : State) :
    (s.resetProp).now = s.now ∧ (s.resetProp).epoch = s.epoch ∧ (s.resetProp).straps = s.straps ∧
    (s.resetProp).station = s.station ∧ (s.resetProp).steer = s.steer ∧ (s.resetProp).mach = s.mach ∧
    (s.resetProp).towLine = s.towLine ∧ (s.resetProp).coup = s.coup ∧ (s.resetProp).fuel = s.fuel ∧
    (s.resetProp).transfer = s.transfer ∧ (s.resetProp).cond = s.cond ∧ (s.resetProp).store = s.store ∧
    (s.resetProp).lines = s.lines ∧ (s.resetProp).tx = s.tx ∧ (s.resetProp).sent = s.sent ∧
    (s.resetProp).readBack = s.readBack ∧ (s.resetProp).draws = s.draws ∧
    (s.resetProp).pending = s.pending := by
  unfold State.resetProp
  repeat' (first | split | (dsimp only; split))
  all_goals simp

@[simp] theorem State.handEngineSources_frame (s : State) (n : Fin 4) :
    (s.handEngineSources n).now = s.now ∧ (s.handEngineSources n).epoch = s.epoch ∧
    (s.handEngineSources n).straps = s.straps ∧ (s.handEngineSources n).station = s.station ∧
    (s.handEngineSources n).prop = s.prop ∧ (s.handEngineSources n).steer = s.steer ∧
    (s.handEngineSources n).mach = s.mach ∧ (s.handEngineSources n).towLine = s.towLine ∧
    (s.handEngineSources n).coup = s.coup ∧ (s.handEngineSources n).fuel = s.fuel ∧
    (s.handEngineSources n).transfer = s.transfer ∧ (s.handEngineSources n).store = s.store ∧
    (s.handEngineSources n).lines = s.lines ∧ (s.handEngineSources n).tx = s.tx ∧
    (s.handEngineSources n).sent = s.sent ∧ (s.handEngineSources n).readBack = s.readBack ∧
    (s.handEngineSources n).draws = s.draws ∧ (s.handEngineSources n).pending = s.pending := by
  simp [State.handEngineSources]

@[simp] theorem State.applyEngineTable_frame (s old : State) :
    (s.applyEngineTable old).now = s.now ∧ (s.applyEngineTable old).epoch = s.epoch ∧
    (s.applyEngineTable old).straps = s.straps ∧ (s.applyEngineTable old).station = s.station ∧
    (s.applyEngineTable old).steer = s.steer ∧ (s.applyEngineTable old).mach = s.mach ∧
    (s.applyEngineTable old).towLine = s.towLine ∧ (s.applyEngineTable old).coup = s.coup ∧
    (s.applyEngineTable old).fuel = s.fuel ∧ (s.applyEngineTable old).transfer = s.transfer ∧
    (s.applyEngineTable old).store = s.store ∧ (s.applyEngineTable old).lines = s.lines ∧
    (s.applyEngineTable old).tx = s.tx ∧ (s.applyEngineTable old).sent = s.sent ∧
    (s.applyEngineTable old).readBack = s.readBack ∧ (s.applyEngineTable old).draws = s.draws ∧
    (s.applyEngineTable old).pending = s.pending := by
  simp [State.applyEngineTable, State.foldl_now, State.foldl_epoch, State.foldl_straps, State.foldl_station,
    State.foldl_steer, State.foldl_mach, State.foldl_towLine, State.foldl_coup, State.foldl_fuel,
    State.foldl_transfer, State.foldl_store, State.foldl_lines, State.foldl_tx, State.foldl_sent,
    State.foldl_readBack, State.foldl_draws, State.foldl_pending]

@[simp] theorem State.enginesReport_frame (s : State) (address : Nat) (r : EngineReport) :
    (s.enginesReport address r).now = s.now ∧ (s.enginesReport address r).epoch = s.epoch ∧
    (s.enginesReport address r).straps = s.straps ∧ (s.enginesReport address r).station = s.station ∧
    (s.enginesReport address r).steer = s.steer ∧ (s.enginesReport address r).mach = s.mach ∧
    (s.enginesReport address r).towLine = s.towLine ∧ (s.enginesReport address r).coup = s.coup ∧
    (s.enginesReport address r).fuel = s.fuel ∧ (s.enginesReport address r).transfer = s.transfer ∧
    (s.enginesReport address r).store = s.store ∧ (s.enginesReport address r).lines = s.lines ∧
    (s.enginesReport address r).tx = s.tx ∧ (s.enginesReport address r).sent = s.sent ∧
    (s.enginesReport address r).readBack = s.readBack ∧ (s.enginesReport address r).draws = s.draws ∧
    (s.enginesReport address r).pending = s.pending := by
  unfold State.enginesReport
  refine ⟨State.onEnginesOf_keeps State.now _ (fun t i e => ?_) s _,
    State.onEnginesOf_keeps State.epoch _ (fun t i e => ?_) s _,
    State.onEnginesOf_keeps State.straps _ (fun t i e => ?_) s _,
    State.onEnginesOf_keeps State.station _ (fun t i e => ?_) s _,
    State.onEnginesOf_keeps State.steer _ (fun t i e => ?_) s _,
    State.onEnginesOf_keeps State.mach _ (fun t i e => ?_) s _,
    State.onEnginesOf_keeps State.towLine _ (fun t i e => ?_) s _,
    State.onEnginesOf_keeps State.coup _ (fun t i e => ?_) s _,
    State.onEnginesOf_keeps State.fuel _ (fun t i e => ?_) s _,
    State.onEnginesOf_keeps State.transfer _ (fun t i e => ?_) s _,
    State.onEnginesOf_keeps State.store _ (fun t i e => ?_) s _,
    State.onEnginesOf_keeps State.lines _ (fun t i e => ?_) s _,
    State.onEnginesOf_keeps State.tx _ (fun t i e => ?_) s _,
    State.onEnginesOf_keeps State.sent _ (fun t i e => ?_) s _,
    State.onEnginesOf_keeps State.readBack _ (fun t i e => ?_) s _,
    State.onEnginesOf_keeps State.draws _ (fun t i e => ?_) s _,
    State.onEnginesOf_keeps State.pending _ (fun t i e => ?_) s _⟩ <;> simp

@[simp] theorem State.enginesMiss_frame (s : State) (address : Nat) :
    (s.enginesMiss address).now = s.now ∧ (s.enginesMiss address).epoch = s.epoch ∧
    (s.enginesMiss address).straps = s.straps ∧ (s.enginesMiss address).station = s.station ∧
    (s.enginesMiss address).steer = s.steer ∧ (s.enginesMiss address).mach = s.mach ∧
    (s.enginesMiss address).towLine = s.towLine ∧ (s.enginesMiss address).coup = s.coup ∧
    (s.enginesMiss address).fuel = s.fuel ∧ (s.enginesMiss address).transfer = s.transfer ∧
    (s.enginesMiss address).cond = s.cond ∧ (s.enginesMiss address).store = s.store ∧
    (s.enginesMiss address).lines = s.lines ∧ (s.enginesMiss address).tx = s.tx ∧
    (s.enginesMiss address).sent = s.sent ∧ (s.enginesMiss address).readBack = s.readBack ∧
    (s.enginesMiss address).draws = s.draws ∧ (s.enginesMiss address).pending = s.pending := by
  unfold State.enginesMiss
  refine ⟨State.onEnginesOf_keeps State.now _ (fun t i e => ?_) s _,
    State.onEnginesOf_keeps State.epoch _ (fun t i e => ?_) s _,
    State.onEnginesOf_keeps State.straps _ (fun t i e => ?_) s _,
    State.onEnginesOf_keeps State.station _ (fun t i e => ?_) s _,
    State.onEnginesOf_keeps State.steer _ (fun t i e => ?_) s _,
    State.onEnginesOf_keeps State.mach _ (fun t i e => ?_) s _,
    State.onEnginesOf_keeps State.towLine _ (fun t i e => ?_) s _,
    State.onEnginesOf_keeps State.coup _ (fun t i e => ?_) s _,
    State.onEnginesOf_keeps State.fuel _ (fun t i e => ?_) s _,
    State.onEnginesOf_keeps State.transfer _ (fun t i e => ?_) s _,
    State.onEnginesOf_keeps State.cond _ (fun t i e => ?_) s _,
    State.onEnginesOf_keeps State.store _ (fun t i e => ?_) s _,
    State.onEnginesOf_keeps State.lines _ (fun t i e => ?_) s _,
    State.onEnginesOf_keeps State.tx _ (fun t i e => ?_) s _,
    State.onEnginesOf_keeps State.sent _ (fun t i e => ?_) s _,
    State.onEnginesOf_keeps State.readBack _ (fun t i e => ?_) s _,
    State.onEnginesOf_keeps State.draws _ (fun t i e => ?_) s _,
    State.onEnginesOf_keeps State.pending _ (fun t i e => ?_) s _⟩ <;> simp

@[simp] theorem State.enginesNode_frame (s : State) (address : Nat) (lost : Bool) :
    (s.enginesNode address lost).now = s.now ∧ (s.enginesNode address lost).epoch = s.epoch ∧
    (s.enginesNode address lost).straps = s.straps ∧ (s.enginesNode address lost).station = s.station ∧
    (s.enginesNode address lost).steer = s.steer ∧ (s.enginesNode address lost).mach = s.mach ∧
    (s.enginesNode address lost).towLine = s.towLine ∧ (s.enginesNode address lost).coup = s.coup ∧
    (s.enginesNode address lost).fuel = s.fuel ∧ (s.enginesNode address lost).transfer = s.transfer ∧
    (s.enginesNode address lost).store = s.store ∧ (s.enginesNode address lost).lines = s.lines ∧
    (s.enginesNode address lost).tx = s.tx ∧ (s.enginesNode address lost).sent = s.sent ∧
    (s.enginesNode address lost).readBack = s.readBack ∧ (s.enginesNode address lost).draws = s.draws ∧
    (s.enginesNode address lost).pending = s.pending := by
  unfold State.enginesNode
  refine ⟨State.onEnginesOf_keeps State.now _ (fun t i e => ?_) s _,
    State.onEnginesOf_keeps State.epoch _ (fun t i e => ?_) s _,
    State.onEnginesOf_keeps State.straps _ (fun t i e => ?_) s _,
    State.onEnginesOf_keeps State.station _ (fun t i e => ?_) s _,
    State.onEnginesOf_keeps State.steer _ (fun t i e => ?_) s _,
    State.onEnginesOf_keeps State.mach _ (fun t i e => ?_) s _,
    State.onEnginesOf_keeps State.towLine _ (fun t i e => ?_) s _,
    State.onEnginesOf_keeps State.coup _ (fun t i e => ?_) s _,
    State.onEnginesOf_keeps State.fuel _ (fun t i e => ?_) s _,
    State.onEnginesOf_keeps State.transfer _ (fun t i e => ?_) s _,
    State.onEnginesOf_keeps State.store _ (fun t i e => ?_) s _,
    State.onEnginesOf_keeps State.lines _ (fun t i e => ?_) s _,
    State.onEnginesOf_keeps State.tx _ (fun t i e => ?_) s _,
    State.onEnginesOf_keeps State.sent _ (fun t i e => ?_) s _,
    State.onEnginesOf_keeps State.readBack _ (fun t i e => ?_) s _,
    State.onEnginesOf_keeps State.draws _ (fun t i e => ?_) s _,
    State.onEnginesOf_keeps State.pending _ (fun t i e => ?_) s _⟩ <;> simp

/-! ## Operations of Machine/Steering.lean -/

@[simp] theorem State.evalBow_frame (s : State) :
    (s.evalBow).now = s.now ∧ (s.evalBow).epoch = s.epoch ∧ (s.evalBow).straps = s.straps ∧
    (s.evalBow).station = s.station ∧ (s.evalBow).prop = s.prop ∧ (s.evalBow).mach = s.mach ∧
    (s.evalBow).towLine = s.towLine ∧ (s.evalBow).coup = s.coup ∧ (s.evalBow).fuel = s.fuel ∧
    (s.evalBow).transfer = s.transfer ∧ (s.evalBow).store = s.store ∧ (s.evalBow).lines = s.lines ∧
    (s.evalBow).tx = s.tx ∧ (s.evalBow).sent = s.sent ∧ (s.evalBow).readBack = s.readBack ∧
    (s.evalBow).draws = s.draws ∧ (s.evalBow).pending = s.pending := by
  unfold State.evalBow
  repeat' (first | split | (dsimp only; split))
  all_goals simp

@[simp] theorem State.rudderCompute_frame (s : State) (i : Fin 7) (a : SteerEntry) (interval : Nat) :
    (s.rudderCompute i a interval).now = s.now ∧ (s.rudderCompute i a interval).epoch = s.epoch ∧
    (s.rudderCompute i a interval).straps = s.straps ∧ (s.rudderCompute i a interval).station = s.station ∧
    (s.rudderCompute i a interval).prop = s.prop ∧ (s.rudderCompute i a interval).mach = s.mach ∧
    (s.rudderCompute i a interval).towLine = s.towLine ∧ (s.rudderCompute i a interval).coup = s.coup ∧
    (s.rudderCompute i a interval).fuel = s.fuel ∧ (s.rudderCompute i a interval).transfer = s.transfer ∧
    (s.rudderCompute i a interval).cond = s.cond ∧ (s.rudderCompute i a interval).store = s.store ∧
    (s.rudderCompute i a interval).lines = s.lines ∧ (s.rudderCompute i a interval).tx = s.tx ∧
    (s.rudderCompute i a interval).sent = s.sent ∧
    (s.rudderCompute i a interval).readBack = s.readBack ∧
    (s.rudderCompute i a interval).draws = s.draws ∧ (s.rudderCompute i a interval).pending = s.pending := by
  simp [State.rudderCompute]

@[simp] theorem State.bowCompute_frame (s : State) :
    (s.bowCompute).now = s.now ∧ (s.bowCompute).epoch = s.epoch ∧ (s.bowCompute).straps = s.straps ∧
    (s.bowCompute).station = s.station ∧ (s.bowCompute).prop = s.prop ∧ (s.bowCompute).mach = s.mach ∧
    (s.bowCompute).towLine = s.towLine ∧ (s.bowCompute).coup = s.coup ∧ (s.bowCompute).fuel = s.fuel ∧
    (s.bowCompute).transfer = s.transfer ∧ (s.bowCompute).store = s.store ∧
    (s.bowCompute).lines = s.lines ∧ (s.bowCompute).tx = s.tx ∧ (s.bowCompute).sent = s.sent ∧
    (s.bowCompute).readBack = s.readBack ∧ (s.bowCompute).draws = s.draws ∧
    (s.bowCompute).pending = s.pending := by
  unfold State.bowCompute
  repeat' (first | split | (dsimp only; split))
  all_goals simp

@[simp] theorem State.actuatorReport_frame (s : State) (i : Fin 7) (a : SteerEntry) (angle : Int) :
    (s.actuatorReport i a angle).now = s.now ∧ (s.actuatorReport i a angle).epoch = s.epoch ∧
    (s.actuatorReport i a angle).straps = s.straps ∧ (s.actuatorReport i a angle).station = s.station ∧
    (s.actuatorReport i a angle).prop = s.prop ∧ (s.actuatorReport i a angle).mach = s.mach ∧
    (s.actuatorReport i a angle).towLine = s.towLine ∧ (s.actuatorReport i a angle).coup = s.coup ∧
    (s.actuatorReport i a angle).fuel = s.fuel ∧ (s.actuatorReport i a angle).transfer = s.transfer ∧
    (s.actuatorReport i a angle).store = s.store ∧ (s.actuatorReport i a angle).lines = s.lines ∧
    (s.actuatorReport i a angle).tx = s.tx ∧ (s.actuatorReport i a angle).sent = s.sent ∧
    (s.actuatorReport i a angle).readBack = s.readBack ∧
    (s.actuatorReport i a angle).draws = s.draws ∧ (s.actuatorReport i a angle).pending = s.pending := by
  simp [State.actuatorReport]

@[simp] theorem State.actuatorNode_frame (s : State) (i : Fin 7) (lost : Bool) :
    (s.actuatorNode i lost).now = s.now ∧ (s.actuatorNode i lost).epoch = s.epoch ∧
    (s.actuatorNode i lost).straps = s.straps ∧ (s.actuatorNode i lost).station = s.station ∧
    (s.actuatorNode i lost).prop = s.prop ∧ (s.actuatorNode i lost).mach = s.mach ∧
    (s.actuatorNode i lost).towLine = s.towLine ∧ (s.actuatorNode i lost).coup = s.coup ∧
    (s.actuatorNode i lost).fuel = s.fuel ∧ (s.actuatorNode i lost).transfer = s.transfer ∧
    (s.actuatorNode i lost).cond = s.cond ∧ (s.actuatorNode i lost).store = s.store ∧
    (s.actuatorNode i lost).lines = s.lines ∧ (s.actuatorNode i lost).tx = s.tx ∧
    (s.actuatorNode i lost).sent = s.sent ∧ (s.actuatorNode i lost).readBack = s.readBack ∧
    (s.actuatorNode i lost).draws = s.draws ∧ (s.actuatorNode i lost).pending = s.pending := by
  simp [State.actuatorNode]

@[simp] theorem State.ruddersReport_frame (s : State) (address : Nat) (angle : Int) :
    (s.ruddersReport address angle).now = s.now ∧ (s.ruddersReport address angle).epoch = s.epoch ∧
    (s.ruddersReport address angle).straps = s.straps ∧ (s.ruddersReport address angle).station = s.station ∧
    (s.ruddersReport address angle).prop = s.prop ∧ (s.ruddersReport address angle).mach = s.mach ∧
    (s.ruddersReport address angle).towLine = s.towLine ∧ (s.ruddersReport address angle).coup = s.coup ∧
    (s.ruddersReport address angle).fuel = s.fuel ∧ (s.ruddersReport address angle).transfer = s.transfer ∧
    (s.ruddersReport address angle).store = s.store ∧ (s.ruddersReport address angle).lines = s.lines ∧
    (s.ruddersReport address angle).tx = s.tx ∧ (s.ruddersReport address angle).sent = s.sent ∧
    (s.ruddersReport address angle).readBack = s.readBack ∧
    (s.ruddersReport address angle).draws = s.draws ∧ (s.ruddersReport address angle).pending = s.pending := by
  unfold State.ruddersReport
  refine ⟨State.onRuddersOf_keeps State.now _ (fun t i e => ?_) s _,
    State.onRuddersOf_keeps State.epoch _ (fun t i e => ?_) s _,
    State.onRuddersOf_keeps State.straps _ (fun t i e => ?_) s _,
    State.onRuddersOf_keeps State.station _ (fun t i e => ?_) s _,
    State.onRuddersOf_keeps State.prop _ (fun t i e => ?_) s _,
    State.onRuddersOf_keeps State.mach _ (fun t i e => ?_) s _,
    State.onRuddersOf_keeps State.towLine _ (fun t i e => ?_) s _,
    State.onRuddersOf_keeps State.coup _ (fun t i e => ?_) s _,
    State.onRuddersOf_keeps State.fuel _ (fun t i e => ?_) s _,
    State.onRuddersOf_keeps State.transfer _ (fun t i e => ?_) s _,
    State.onRuddersOf_keeps State.store _ (fun t i e => ?_) s _,
    State.onRuddersOf_keeps State.lines _ (fun t i e => ?_) s _,
    State.onRuddersOf_keeps State.tx _ (fun t i e => ?_) s _,
    State.onRuddersOf_keeps State.sent _ (fun t i e => ?_) s _,
    State.onRuddersOf_keeps State.readBack _ (fun t i e => ?_) s _,
    State.onRuddersOf_keeps State.draws _ (fun t i e => ?_) s _,
    State.onRuddersOf_keeps State.pending _ (fun t i e => ?_) s _⟩ <;> simp

@[simp] theorem State.followNode_frame (s : State) (address : Nat) (lost : Bool) :
    (s.followNode address lost).now = s.now ∧ (s.followNode address lost).epoch = s.epoch ∧
    (s.followNode address lost).straps = s.straps ∧ (s.followNode address lost).station = s.station ∧
    (s.followNode address lost).prop = s.prop ∧ (s.followNode address lost).mach = s.mach ∧
    (s.followNode address lost).towLine = s.towLine ∧ (s.followNode address lost).coup = s.coup ∧
    (s.followNode address lost).fuel = s.fuel ∧ (s.followNode address lost).transfer = s.transfer ∧
    (s.followNode address lost).cond = s.cond ∧ (s.followNode address lost).store = s.store ∧
    (s.followNode address lost).lines = s.lines ∧ (s.followNode address lost).tx = s.tx ∧
    (s.followNode address lost).sent = s.sent ∧ (s.followNode address lost).readBack = s.readBack ∧
    (s.followNode address lost).draws = s.draws ∧ (s.followNode address lost).pending = s.pending := by
  unfold State.followNode
  refine ⟨State.onRuddersOf_keeps State.now _ (fun t i e => ?_) s _,
    State.onRuddersOf_keeps State.epoch _ (fun t i e => ?_) s _,
    State.onRuddersOf_keeps State.straps _ (fun t i e => ?_) s _,
    State.onRuddersOf_keeps State.station _ (fun t i e => ?_) s _,
    State.onRuddersOf_keeps State.prop _ (fun t i e => ?_) s _,
    State.onRuddersOf_keeps State.mach _ (fun t i e => ?_) s _,
    State.onRuddersOf_keeps State.towLine _ (fun t i e => ?_) s _,
    State.onRuddersOf_keeps State.coup _ (fun t i e => ?_) s _,
    State.onRuddersOf_keeps State.fuel _ (fun t i e => ?_) s _,
    State.onRuddersOf_keeps State.transfer _ (fun t i e => ?_) s _,
    State.onRuddersOf_keeps State.cond _ (fun t i e => ?_) s _,
    State.onRuddersOf_keeps State.store _ (fun t i e => ?_) s _,
    State.onRuddersOf_keeps State.lines _ (fun t i e => ?_) s _,
    State.onRuddersOf_keeps State.tx _ (fun t i e => ?_) s _,
    State.onRuddersOf_keeps State.sent _ (fun t i e => ?_) s _,
    State.onRuddersOf_keeps State.readBack _ (fun t i e => ?_) s _,
    State.onRuddersOf_keeps State.draws _ (fun t i e => ?_) s _,
    State.onRuddersOf_keeps State.pending _ (fun t i e => ?_) s _⟩ <;> simp

@[simp] theorem State.resetSteer_frame (s : State) (keep : Bool) :
    (s.resetSteer keep).now = s.now ∧ (s.resetSteer keep).epoch = s.epoch ∧
    (s.resetSteer keep).straps = s.straps ∧ (s.resetSteer keep).station = s.station ∧
    (s.resetSteer keep).prop = s.prop ∧ (s.resetSteer keep).mach = s.mach ∧
    (s.resetSteer keep).towLine = s.towLine ∧ (s.resetSteer keep).coup = s.coup ∧
    (s.resetSteer keep).fuel = s.fuel ∧ (s.resetSteer keep).transfer = s.transfer ∧
    (s.resetSteer keep).cond = s.cond ∧ (s.resetSteer keep).store = s.store ∧
    (s.resetSteer keep).lines = s.lines ∧ (s.resetSteer keep).tx = s.tx ∧
    (s.resetSteer keep).sent = s.sent ∧ (s.resetSteer keep).readBack = s.readBack ∧
    (s.resetSteer keep).draws = s.draws ∧ (s.resetSteer keep).pending = s.pending := by
  unfold State.resetSteer
  repeat' (first | split | (dsimp only; split))
  all_goals simp

@[simp] theorem State.applySteeringTable_frame (s old : State) :
    (s.applySteeringTable old).now = s.now ∧ (s.applySteeringTable old).epoch = s.epoch ∧
    (s.applySteeringTable old).straps = s.straps ∧ (s.applySteeringTable old).station = s.station ∧
    (s.applySteeringTable old).prop = s.prop ∧ (s.applySteeringTable old).mach = s.mach ∧
    (s.applySteeringTable old).towLine = s.towLine ∧ (s.applySteeringTable old).coup = s.coup ∧
    (s.applySteeringTable old).fuel = s.fuel ∧ (s.applySteeringTable old).transfer = s.transfer ∧
    (s.applySteeringTable old).store = s.store ∧ (s.applySteeringTable old).lines = s.lines ∧
    (s.applySteeringTable old).tx = s.tx ∧ (s.applySteeringTable old).sent = s.sent ∧
    (s.applySteeringTable old).readBack = s.readBack ∧ (s.applySteeringTable old).draws = s.draws ∧
    (s.applySteeringTable old).pending = s.pending := by
  simp [State.applySteeringTable, State.foldl_now, State.foldl_epoch, State.foldl_straps,
    State.foldl_station, State.foldl_prop, State.foldl_mach, State.foldl_towLine, State.foldl_coup,
    State.foldl_fuel, State.foldl_transfer, State.foldl_store, State.foldl_lines, State.foldl_tx,
    State.foldl_sent, State.foldl_readBack, State.foldl_draws, State.foldl_pending]

/-! ## Operations of Machine/Couplings.lean -/

@[simp] theorem State.evalTowSilent_frame (s : State) :
    (s.evalTowSilent).now = s.now ∧ (s.evalTowSilent).epoch = s.epoch ∧
    (s.evalTowSilent).straps = s.straps ∧ (s.evalTowSilent).station = s.station ∧
    (s.evalTowSilent).prop = s.prop ∧ (s.evalTowSilent).steer = s.steer ∧ (s.evalTowSilent).mach = s.mach ∧
    (s.evalTowSilent).towLine = s.towLine ∧ (s.evalTowSilent).coup = s.coup ∧
    (s.evalTowSilent).fuel = s.fuel ∧ (s.evalTowSilent).transfer = s.transfer ∧
    (s.evalTowSilent).store = s.store ∧ (s.evalTowSilent).lines = s.lines ∧ (s.evalTowSilent).tx = s.tx ∧
    (s.evalTowSilent).sent = s.sent ∧ (s.evalTowSilent).readBack = s.readBack ∧
    (s.evalTowSilent).draws = s.draws ∧ (s.evalTowSilent).pending = s.pending := by
  simp [State.evalTowSilent]

@[simp] theorem State.evalTowFault_frame (s : State) :
    (s.evalTowFault).now = s.now ∧ (s.evalTowFault).epoch = s.epoch ∧ (s.evalTowFault).straps = s.straps ∧
    (s.evalTowFault).station = s.station ∧ (s.evalTowFault).prop = s.prop ∧
    (s.evalTowFault).steer = s.steer ∧ (s.evalTowFault).mach = s.mach ∧
    (s.evalTowFault).towLine = s.towLine ∧ (s.evalTowFault).coup = s.coup ∧
    (s.evalTowFault).fuel = s.fuel ∧ (s.evalTowFault).transfer = s.transfer ∧
    (s.evalTowFault).store = s.store ∧ (s.evalTowFault).lines = s.lines ∧ (s.evalTowFault).tx = s.tx ∧
    (s.evalTowFault).sent = s.sent ∧ (s.evalTowFault).readBack = s.readBack ∧
    (s.evalTowFault).draws = s.draws ∧ (s.evalTowFault).pending = s.pending := by
  simp [State.evalTowFault]

@[simp] theorem State.evalTowInputs_frame (s : State) :
    (s.evalTowInputs).now = s.now ∧ (s.evalTowInputs).epoch = s.epoch ∧
    (s.evalTowInputs).straps = s.straps ∧ (s.evalTowInputs).station = s.station ∧
    (s.evalTowInputs).prop = s.prop ∧ (s.evalTowInputs).steer = s.steer ∧ (s.evalTowInputs).mach = s.mach ∧
    (s.evalTowInputs).towLine = s.towLine ∧ (s.evalTowInputs).coup = s.coup ∧
    (s.evalTowInputs).fuel = s.fuel ∧ (s.evalTowInputs).transfer = s.transfer ∧
    (s.evalTowInputs).store = s.store ∧ (s.evalTowInputs).lines = s.lines ∧ (s.evalTowInputs).tx = s.tx ∧
    (s.evalTowInputs).sent = s.sent ∧ (s.evalTowInputs).readBack = s.readBack ∧
    (s.evalTowInputs).draws = s.draws ∧ (s.evalTowInputs).pending = s.pending := by
  simp [State.evalTowInputs]

@[simp] theorem State.evalCouplingStates_frame (s : State) :
    (s.evalCouplingStates).now = s.now ∧ (s.evalCouplingStates).epoch = s.epoch ∧
    (s.evalCouplingStates).straps = s.straps ∧ (s.evalCouplingStates).station = s.station ∧
    (s.evalCouplingStates).prop = s.prop ∧ (s.evalCouplingStates).steer = s.steer ∧
    (s.evalCouplingStates).mach = s.mach ∧ (s.evalCouplingStates).towLine = s.towLine ∧
    (s.evalCouplingStates).coup = s.coup ∧ (s.evalCouplingStates).fuel = s.fuel ∧
    (s.evalCouplingStates).transfer = s.transfer ∧ (s.evalCouplingStates).store = s.store ∧
    (s.evalCouplingStates).lines = s.lines ∧ (s.evalCouplingStates).tx = s.tx ∧
    (s.evalCouplingStates).sent = s.sent ∧ (s.evalCouplingStates).readBack = s.readBack ∧
    (s.evalCouplingStates).draws = s.draws ∧ (s.evalCouplingStates).pending = s.pending := by
  simp [State.evalCouplingStates]

@[simp] theorem State.evalTowBlind_frame (s : State) :
    (s.evalTowBlind).now = s.now ∧ (s.evalTowBlind).epoch = s.epoch ∧ (s.evalTowBlind).straps = s.straps ∧
    (s.evalTowBlind).station = s.station ∧ (s.evalTowBlind).prop = s.prop ∧
    (s.evalTowBlind).steer = s.steer ∧ (s.evalTowBlind).mach = s.mach ∧
    (s.evalTowBlind).towLine = s.towLine ∧ (s.evalTowBlind).coup = s.coup ∧
    (s.evalTowBlind).fuel = s.fuel ∧ (s.evalTowBlind).transfer = s.transfer ∧
    (s.evalTowBlind).store = s.store ∧ (s.evalTowBlind).lines = s.lines ∧ (s.evalTowBlind).tx = s.tx ∧
    (s.evalTowBlind).sent = s.sent ∧ (s.evalTowBlind).readBack = s.readBack ∧
    (s.evalTowBlind).draws = s.draws ∧ (s.evalTowBlind).pending = s.pending := by
  simp [State.evalTowBlind]

@[simp] theorem State.evalCouplings_frame (s : State) :
    (s.evalCouplings).now = s.now ∧ (s.evalCouplings).epoch = s.epoch ∧
    (s.evalCouplings).straps = s.straps ∧ (s.evalCouplings).station = s.station ∧
    (s.evalCouplings).prop = s.prop ∧ (s.evalCouplings).steer = s.steer ∧ (s.evalCouplings).mach = s.mach ∧
    (s.evalCouplings).towLine = s.towLine ∧ (s.evalCouplings).coup = s.coup ∧
    (s.evalCouplings).fuel = s.fuel ∧ (s.evalCouplings).transfer = s.transfer ∧
    (s.evalCouplings).store = s.store ∧ (s.evalCouplings).lines = s.lines ∧ (s.evalCouplings).tx = s.tx ∧
    (s.evalCouplings).sent = s.sent ∧ (s.evalCouplings).readBack = s.readBack ∧
    (s.evalCouplings).draws = s.draws ∧ (s.evalCouplings).pending = s.pending := by
  simp [State.evalCouplings]

@[simp] theorem State.recomputeCeiling_frame (s : State) :
    (s.recomputeCeiling).now = s.now ∧ (s.recomputeCeiling).epoch = s.epoch ∧
    (s.recomputeCeiling).straps = s.straps ∧ (s.recomputeCeiling).station = s.station ∧
    (s.recomputeCeiling).prop = s.prop ∧ (s.recomputeCeiling).steer = s.steer ∧
    (s.recomputeCeiling).mach = s.mach ∧ (s.recomputeCeiling).towLine = s.towLine ∧
    (s.recomputeCeiling).fuel = s.fuel ∧ (s.recomputeCeiling).transfer = s.transfer ∧
    (s.recomputeCeiling).cond = s.cond ∧ (s.recomputeCeiling).store = s.store ∧
    (s.recomputeCeiling).lines = s.lines ∧ (s.recomputeCeiling).tx = s.tx ∧
    (s.recomputeCeiling).sent = s.sent ∧ (s.recomputeCeiling).readBack = s.readBack ∧
    (s.recomputeCeiling).draws = s.draws ∧ (s.recomputeCeiling).pending = s.pending := by
  simp [State.recomputeCeiling]

@[simp] theorem State.cycleEnd_frame (s : State) :
    (s.cycleEnd).now = s.now ∧ (s.cycleEnd).epoch = s.epoch ∧ (s.cycleEnd).straps = s.straps ∧
    (s.cycleEnd).station = s.station ∧ (s.cycleEnd).prop = s.prop ∧ (s.cycleEnd).steer = s.steer ∧
    (s.cycleEnd).mach = s.mach ∧ (s.cycleEnd).towLine = s.towLine ∧ (s.cycleEnd).fuel = s.fuel ∧
    (s.cycleEnd).transfer = s.transfer ∧ (s.cycleEnd).cond = s.cond ∧ (s.cycleEnd).store = s.store ∧
    (s.cycleEnd).lines = s.lines ∧ (s.cycleEnd).tx = s.tx ∧ (s.cycleEnd).sent = s.sent ∧
    (s.cycleEnd).readBack = s.readBack ∧ (s.cycleEnd).draws = s.draws ∧
    (s.cycleEnd).pending = s.pending := by
  simp [State.cycleEnd]

@[simp] theorem State.setSplitCouplings_frame (s : State) (x : CouplingState) :
    (s.setSplitCouplings x).now = s.now ∧ (s.setSplitCouplings x).epoch = s.epoch ∧
    (s.setSplitCouplings x).straps = s.straps ∧ (s.setSplitCouplings x).station = s.station ∧
    (s.setSplitCouplings x).prop = s.prop ∧ (s.setSplitCouplings x).steer = s.steer ∧
    (s.setSplitCouplings x).mach = s.mach ∧ (s.setSplitCouplings x).towLine = s.towLine ∧
    (s.setSplitCouplings x).fuel = s.fuel ∧ (s.setSplitCouplings x).transfer = s.transfer ∧
    (s.setSplitCouplings x).cond = s.cond ∧ (s.setSplitCouplings x).store = s.store ∧
    (s.setSplitCouplings x).lines = s.lines ∧ (s.setSplitCouplings x).tx = s.tx ∧
    (s.setSplitCouplings x).sent = s.sent ∧ (s.setSplitCouplings x).readBack = s.readBack ∧
    (s.setSplitCouplings x).draws = s.draws ∧ (s.setSplitCouplings x).pending = s.pending := by
  unfold State.setSplitCouplings
  repeat' (first | split | (dsimp only; split))
  all_goals simp

@[simp] theorem State.applySplitRecords_frame (s : State) (x : SplitRecords) :
    (s.applySplitRecords x).now = s.now ∧ (s.applySplitRecords x).epoch = s.epoch ∧
    (s.applySplitRecords x).straps = s.straps ∧ (s.applySplitRecords x).station = s.station ∧
    (s.applySplitRecords x).prop = s.prop ∧ (s.applySplitRecords x).steer = s.steer ∧
    (s.applySplitRecords x).mach = s.mach ∧ (s.applySplitRecords x).towLine = s.towLine ∧
    (s.applySplitRecords x).fuel = s.fuel ∧ (s.applySplitRecords x).transfer = s.transfer ∧
    (s.applySplitRecords x).cond = s.cond ∧ (s.applySplitRecords x).store = s.store ∧
    (s.applySplitRecords x).lines = s.lines ∧ (s.applySplitRecords x).tx = s.tx ∧
    (s.applySplitRecords x).sent = s.sent ∧ (s.applySplitRecords x).readBack = s.readBack ∧
    (s.applySplitRecords x).draws = s.draws ∧ (s.applySplitRecords x).pending = s.pending := by
  unfold State.applySplitRecords
  repeat' (first | split | (dsimp only; split))
  all_goals simp

@[simp] theorem State.setSplitMode_frame (s : State) (m : SplitMode) (x : SplitRecords) (rejoin : Option Moment) :
    (s.setSplitMode m x rejoin).now = s.now ∧ (s.setSplitMode m x rejoin).epoch = s.epoch ∧
    (s.setSplitMode m x rejoin).straps = s.straps ∧ (s.setSplitMode m x rejoin).station = s.station ∧
    (s.setSplitMode m x rejoin).prop = s.prop ∧ (s.setSplitMode m x rejoin).mach = s.mach ∧
    (s.setSplitMode m x rejoin).towLine = s.towLine ∧ (s.setSplitMode m x rejoin).fuel = s.fuel ∧
    (s.setSplitMode m x rejoin).transfer = s.transfer ∧ (s.setSplitMode m x rejoin).lines = s.lines ∧
    (s.setSplitMode m x rejoin).tx = s.tx ∧ (s.setSplitMode m x rejoin).sent = s.sent ∧
    (s.setSplitMode m x rejoin).readBack = s.readBack ∧ (s.setSplitMode m x rejoin).draws = s.draws ∧
    (s.setSplitMode m x rejoin).pending = s.pending := by
  simp [State.setSplitMode]

@[simp] theorem State.testSplit_frame (s : State) :
    (s.testSplit).now = s.now ∧ (s.testSplit).epoch = s.epoch ∧ (s.testSplit).straps = s.straps ∧
    (s.testSplit).station = s.station ∧ (s.testSplit).prop = s.prop ∧ (s.testSplit).mach = s.mach ∧
    (s.testSplit).towLine = s.towLine ∧ (s.testSplit).fuel = s.fuel ∧ (s.testSplit).transfer = s.transfer ∧
    (s.testSplit).lines = s.lines ∧ (s.testSplit).tx = s.tx ∧ (s.testSplit).sent = s.sent ∧
    (s.testSplit).readBack = s.readBack ∧ (s.testSplit).draws = s.draws ∧
    (s.testSplit).pending = s.pending := by
  unfold State.testSplit
  repeat' (first | split | (dsimp only; split))
  all_goals simp

@[simp] theorem State.testRejoin_frame (s : State) :
    (s.testRejoin).now = s.now ∧ (s.testRejoin).epoch = s.epoch ∧ (s.testRejoin).straps = s.straps ∧
    (s.testRejoin).station = s.station ∧ (s.testRejoin).prop = s.prop ∧ (s.testRejoin).mach = s.mach ∧
    (s.testRejoin).towLine = s.towLine ∧ (s.testRejoin).fuel = s.fuel ∧
    (s.testRejoin).transfer = s.transfer ∧ (s.testRejoin).lines = s.lines ∧ (s.testRejoin).tx = s.tx ∧
    (s.testRejoin).sent = s.sent ∧ (s.testRejoin).readBack = s.readBack ∧
    (s.testRejoin).draws = s.draws ∧ (s.testRejoin).pending = s.pending := by
  unfold State.testRejoin
  repeat' (first | split | (dsimp only; split))
  all_goals simp

@[simp] theorem State.couplingReading_frame (s : State) (node ch : Nat) (r : Reading) :
    (s.couplingReading node ch r).now = s.now ∧ (s.couplingReading node ch r).epoch = s.epoch ∧
    (s.couplingReading node ch r).straps = s.straps ∧ (s.couplingReading node ch r).station = s.station ∧
    (s.couplingReading node ch r).prop = s.prop ∧ (s.couplingReading node ch r).mach = s.mach ∧
    (s.couplingReading node ch r).towLine = s.towLine ∧ (s.couplingReading node ch r).fuel = s.fuel ∧
    (s.couplingReading node ch r).transfer = s.transfer ∧ (s.couplingReading node ch r).lines = s.lines ∧
    (s.couplingReading node ch r).tx = s.tx ∧ (s.couplingReading node ch r).sent = s.sent ∧
    (s.couplingReading node ch r).readBack = s.readBack ∧
    (s.couplingReading node ch r).draws = s.draws ∧ (s.couplingReading node ch r).pending = s.pending := by
  unfold State.couplingReading
  repeat' (first | split | (dsimp only; split))
  all_goals simp

@[simp] theorem State.loseNodeCouplings_frame (s : State) (node : Nat) (cause : UnknownCause) :
    (s.loseNodeCouplings node cause).now = s.now ∧ (s.loseNodeCouplings node cause).epoch = s.epoch ∧
    (s.loseNodeCouplings node cause).straps = s.straps ∧
    (s.loseNodeCouplings node cause).station = s.station ∧ (s.loseNodeCouplings node cause).prop = s.prop ∧
    (s.loseNodeCouplings node cause).steer = s.steer ∧ (s.loseNodeCouplings node cause).mach = s.mach ∧
    (s.loseNodeCouplings node cause).towLine = s.towLine ∧ (s.loseNodeCouplings node cause).fuel = s.fuel ∧
    (s.loseNodeCouplings node cause).transfer = s.transfer ∧
    (s.loseNodeCouplings node cause).cond = s.cond ∧ (s.loseNodeCouplings node cause).store = s.store ∧
    (s.loseNodeCouplings node cause).lines = s.lines ∧ (s.loseNodeCouplings node cause).tx = s.tx ∧
    (s.loseNodeCouplings node cause).sent = s.sent ∧
    (s.loseNodeCouplings node cause).readBack = s.readBack ∧
    (s.loseNodeCouplings node cause).draws = s.draws ∧ (s.loseNodeCouplings node cause).pending = s.pending := by
  unfold State.loseNodeCouplings
  repeat' (first | split | (dsimp only; split))
  all_goals simp

@[simp] theorem State.couplingNodeChange_frame (s : State) (node : Nat) (x : TowNodeState) (code : Nat) :
    (s.couplingNodeChange node x code).now = s.now ∧ (s.couplingNodeChange node x code).epoch = s.epoch ∧
    (s.couplingNodeChange node x code).straps = s.straps ∧
    (s.couplingNodeChange node x code).station = s.station ∧
    (s.couplingNodeChange node x code).prop = s.prop ∧ (s.couplingNodeChange node x code).mach = s.mach ∧
    (s.couplingNodeChange node x code).towLine = s.towLine ∧
    (s.couplingNodeChange node x code).fuel = s.fuel ∧
    (s.couplingNodeChange node x code).transfer = s.transfer ∧
    (s.couplingNodeChange node x code).lines = s.lines ∧ (s.couplingNodeChange node x code).tx = s.tx ∧
    (s.couplingNodeChange node x code).sent = s.sent ∧
    (s.couplingNodeChange node x code).readBack = s.readBack ∧
    (s.couplingNodeChange node x code).draws = s.draws ∧
    (s.couplingNodeChange node x code).pending = s.pending := by
  unfold State.couplingNodeChange
  repeat' (first | split | (dsimp only; split))
  all_goals simp

@[simp] theorem State.applyTowTables_frame (s : State) :
    (s.applyTowTables).now = s.now ∧ (s.applyTowTables).epoch = s.epoch ∧
    (s.applyTowTables).straps = s.straps ∧ (s.applyTowTables).station = s.station ∧
    (s.applyTowTables).prop = s.prop ∧ (s.applyTowTables).steer = s.steer ∧
    (s.applyTowTables).mach = s.mach ∧ (s.applyTowTables).towLine = s.towLine ∧
    (s.applyTowTables).fuel = s.fuel ∧ (s.applyTowTables).transfer = s.transfer ∧
    (s.applyTowTables).store = s.store ∧ (s.applyTowTables).lines = s.lines ∧
    (s.applyTowTables).tx = s.tx ∧ (s.applyTowTables).sent = s.sent ∧
    (s.applyTowTables).readBack = s.readBack ∧ (s.applyTowTables).draws = s.draws ∧
    (s.applyTowTables).pending = s.pending := by
  simp [State.applyTowTables]

@[simp] theorem State.resetCoupling_frame (s : State) (m : SplitMode) :
    (s.resetCoupling m).now = s.now ∧ (s.resetCoupling m).epoch = s.epoch ∧
    (s.resetCoupling m).straps = s.straps ∧ (s.resetCoupling m).station = s.station ∧
    (s.resetCoupling m).prop = s.prop ∧ (s.resetCoupling m).steer = s.steer ∧
    (s.resetCoupling m).mach = s.mach ∧ (s.resetCoupling m).towLine = s.towLine ∧
    (s.resetCoupling m).fuel = s.fuel ∧ (s.resetCoupling m).transfer = s.transfer ∧
    (s.resetCoupling m).cond = s.cond ∧ (s.resetCoupling m).store = s.store ∧
    (s.resetCoupling m).lines = s.lines ∧ (s.resetCoupling m).tx = s.tx ∧
    (s.resetCoupling m).sent = s.sent ∧ (s.resetCoupling m).readBack = s.readBack ∧
    (s.resetCoupling m).draws = s.draws ∧ (s.resetCoupling m).pending = s.pending := by
  unfold State.resetCoupling
  repeat' (first | split | (dsimp only; split))
  all_goals simp

@[simp] theorem State.rejoinExpires_frame (s : State) :
    (s.rejoinExpires).now = s.now ∧ (s.rejoinExpires).epoch = s.epoch ∧
    (s.rejoinExpires).straps = s.straps ∧ (s.rejoinExpires).station = s.station ∧
    (s.rejoinExpires).prop = s.prop ∧ (s.rejoinExpires).steer = s.steer ∧ (s.rejoinExpires).mach = s.mach ∧
    (s.rejoinExpires).towLine = s.towLine ∧ (s.rejoinExpires).fuel = s.fuel ∧
    (s.rejoinExpires).transfer = s.transfer ∧ (s.rejoinExpires).store = s.store ∧
    (s.rejoinExpires).lines = s.lines ∧ (s.rejoinExpires).tx = s.tx ∧ (s.rejoinExpires).sent = s.sent ∧
    (s.rejoinExpires).readBack = s.readBack ∧ (s.rejoinExpires).draws = s.draws ∧
    (s.rejoinExpires).pending = s.pending := by
  simp [State.rejoinExpires]

@[simp] theorem State.applyTowLimits_frame (s : State) :
    (s.applyTowLimits).now = s.now ∧ (s.applyTowLimits).epoch = s.epoch ∧
    (s.applyTowLimits).straps = s.straps ∧ (s.applyTowLimits).station = s.station ∧
    (s.applyTowLimits).prop = s.prop ∧ (s.applyTowLimits).steer = s.steer ∧
    (s.applyTowLimits).mach = s.mach ∧ (s.applyTowLimits).towLine = s.towLine ∧
    (s.applyTowLimits).fuel = s.fuel ∧ (s.applyTowLimits).transfer = s.transfer ∧
    (s.applyTowLimits).store = s.store ∧ (s.applyTowLimits).lines = s.lines ∧
    (s.applyTowLimits).tx = s.tx ∧ (s.applyTowLimits).sent = s.sent ∧
    (s.applyTowLimits).readBack = s.readBack ∧ (s.applyTowLimits).draws = s.draws ∧
    (s.applyTowLimits).pending = s.pending := by
  unfold State.applyTowLimits
  repeat' (first | split | (dsimp only; split))
  all_goals simp

/-! ## Operations of Machine/Replies.lean -/

@[simp] theorem State.composeReply_frame (s : State) (r : MgmtRequest) (status : Status) (fields : Bytes) (head : Bool) :
    (s.composeReply r status fields head).now = s.now ∧
    (s.composeReply r status fields head).epoch = s.epoch ∧
    (s.composeReply r status fields head).straps = s.straps ∧
    (s.composeReply r status fields head).station = s.station ∧
    (s.composeReply r status fields head).prop = s.prop ∧
    (s.composeReply r status fields head).steer = s.steer ∧
    (s.composeReply r status fields head).mach = s.mach ∧
    (s.composeReply r status fields head).towLine = s.towLine ∧
    (s.composeReply r status fields head).coup = s.coup ∧
    (s.composeReply r status fields head).fuel = s.fuel ∧
    (s.composeReply r status fields head).transfer = s.transfer ∧
    (s.composeReply r status fields head).cond = s.cond ∧
    (s.composeReply r status fields head).store = s.store ∧
    (s.composeReply r status fields head).lines = s.lines ∧
    (s.composeReply r status fields head).sent = s.sent ∧
    (s.composeReply r status fields head).readBack = s.readBack ∧
    (s.composeReply r status fields head).draws = s.draws ∧
    (s.composeReply r status fields head).pending = s.pending := by
  simp [State.composeReply]

@[simp] theorem State.answerHead_frame (s : State) (status : Status) (fields : Bytes) (after : AfterReply) :
    (s.answerHead status fields after).now = s.now ∧ (s.answerHead status fields after).epoch = s.epoch ∧
    (s.answerHead status fields after).straps = s.straps ∧
    (s.answerHead status fields after).station = s.station ∧
    (s.answerHead status fields after).prop = s.prop ∧ (s.answerHead status fields after).steer = s.steer ∧
    (s.answerHead status fields after).mach = s.mach ∧
    (s.answerHead status fields after).towLine = s.towLine ∧
    (s.answerHead status fields after).coup = s.coup ∧ (s.answerHead status fields after).fuel = s.fuel ∧
    (s.answerHead status fields after).transfer = s.transfer ∧
    (s.answerHead status fields after).cond = s.cond ∧ (s.answerHead status fields after).lines = s.lines ∧
    (s.answerHead status fields after).sent = s.sent ∧
    (s.answerHead status fields after).readBack = s.readBack ∧
    (s.answerHead status fields after).draws = s.draws ∧
    (s.answerHead status fields after).pending = s.pending := by
  unfold State.answerHead
  repeat' (first | split | (dsimp only; split))
  all_goals simp

/-! ## Operations of Machine/TowLine.lean -/

@[simp] theorem State.sendPoll_frame (s : State) (i : Nat) :
    (s.sendPoll i).now = s.now ∧ (s.sendPoll i).epoch = s.epoch ∧ (s.sendPoll i).straps = s.straps ∧
    (s.sendPoll i).station = s.station ∧ (s.sendPoll i).prop = s.prop ∧ (s.sendPoll i).mach = s.mach ∧
    (s.sendPoll i).coup = s.coup ∧ (s.sendPoll i).fuel = s.fuel ∧ (s.sendPoll i).transfer = s.transfer ∧
    (s.sendPoll i).store = s.store ∧ (s.sendPoll i).lines = s.lines ∧ (s.sendPoll i).tx = s.tx ∧
    (s.sendPoll i).readBack = s.readBack ∧ (s.sendPoll i).draws = s.draws ∧
    (s.sendPoll i).pending = s.pending := by
  unfold State.sendPoll
  repeat' (first | split | (dsimp only; split))
  all_goals simp

@[simp] theorem State.completeCycle_frame (s : State) :
    (s.completeCycle).now = s.now ∧ (s.completeCycle).epoch = s.epoch ∧
    (s.completeCycle).straps = s.straps ∧ (s.completeCycle).station = s.station ∧
    (s.completeCycle).prop = s.prop ∧ (s.completeCycle).steer = s.steer ∧ (s.completeCycle).mach = s.mach ∧
    (s.completeCycle).fuel = s.fuel ∧ (s.completeCycle).transfer = s.transfer ∧
    (s.completeCycle).cond = s.cond ∧ (s.completeCycle).store = s.store ∧
    (s.completeCycle).lines = s.lines ∧ (s.completeCycle).tx = s.tx ∧ (s.completeCycle).sent = s.sent ∧
    (s.completeCycle).readBack = s.readBack ∧ (s.completeCycle).draws = s.draws ∧
    (s.completeCycle).pending = s.pending := by
  simp [State.completeCycle]

@[simp] theorem State.startCycle_frame (s : State) :
    (s.startCycle).now = s.now ∧ (s.startCycle).epoch = s.epoch ∧ (s.startCycle).straps = s.straps ∧
    (s.startCycle).station = s.station ∧ (s.startCycle).prop = s.prop ∧ (s.startCycle).mach = s.mach ∧
    (s.startCycle).fuel = s.fuel ∧ (s.startCycle).transfer = s.transfer ∧ (s.startCycle).store = s.store ∧
    (s.startCycle).lines = s.lines ∧ (s.startCycle).tx = s.tx ∧
    (s.startCycle).readBack = s.readBack ∧ (s.startCycle).draws = s.draws ∧
    (s.startCycle).pending = s.pending := by
  unfold State.startCycle
  repeat' (first | split | (dsimp only; split))
  all_goals simp

@[simp] theorem State.beginAccess_frame (s : State) (a : NodeAccess) :
    (s.beginAccess a).now = s.now ∧ (s.beginAccess a).epoch = s.epoch ∧
    (s.beginAccess a).straps = s.straps ∧ (s.beginAccess a).station = s.station ∧
    (s.beginAccess a).prop = s.prop ∧ (s.beginAccess a).steer = s.steer ∧ (s.beginAccess a).mach = s.mach ∧
    (s.beginAccess a).coup = s.coup ∧ (s.beginAccess a).fuel = s.fuel ∧
    (s.beginAccess a).transfer = s.transfer ∧ (s.beginAccess a).cond = s.cond ∧
    (s.beginAccess a).store = s.store ∧ (s.beginAccess a).lines = s.lines ∧ (s.beginAccess a).tx = s.tx ∧
    (s.beginAccess a).readBack = s.readBack ∧ (s.beginAccess a).draws = s.draws ∧
    (s.beginAccess a).pending = s.pending := by
  unfold State.beginAccess
  repeat' (first | split | (dsimp only; split))
  all_goals simp

@[simp] theorem State.proceed_frame (s : State) :
    (s.proceed).now = s.now ∧ (s.proceed).epoch = s.epoch ∧ (s.proceed).straps = s.straps ∧
    (s.proceed).station = s.station ∧ (s.proceed).prop = s.prop ∧ (s.proceed).mach = s.mach ∧
    (s.proceed).fuel = s.fuel ∧ (s.proceed).transfer = s.transfer ∧ (s.proceed).store = s.store ∧
    (s.proceed).lines = s.lines ∧ (s.proceed).tx = s.tx ∧ (s.proceed).readBack = s.readBack ∧
    (s.proceed).draws = s.draws ∧ (s.proceed).pending = s.pending := by
  unfold State.proceed
  repeat' (first | split | (dsimp only; split))
  all_goals simp

@[simp] theorem State.pollEnded_frame (s : State) (spent : Option PollWindow) :
    (s.pollEnded spent).now = s.now ∧ (s.pollEnded spent).epoch = s.epoch ∧
    (s.pollEnded spent).straps = s.straps ∧ (s.pollEnded spent).station = s.station ∧
    (s.pollEnded spent).prop = s.prop ∧ (s.pollEnded spent).mach = s.mach ∧
    (s.pollEnded spent).fuel = s.fuel ∧ (s.pollEnded spent).transfer = s.transfer ∧
    (s.pollEnded spent).store = s.store ∧ (s.pollEnded spent).lines = s.lines ∧
    (s.pollEnded spent).tx = s.tx ∧ (s.pollEnded spent).readBack = s.readBack ∧
    (s.pollEnded spent).draws = s.draws ∧ (s.pollEnded spent).pending = s.pending := by
  unfold State.pollEnded
  repeat' (first | split | (dsimp only; split))
  all_goals simp

@[simp] theorem State.pollRestart_frame (s : State) :
    (s.pollRestart).now = s.now ∧ (s.pollRestart).epoch = s.epoch ∧ (s.pollRestart).straps = s.straps ∧
    (s.pollRestart).station = s.station ∧ (s.pollRestart).prop = s.prop ∧ (s.pollRestart).mach = s.mach ∧
    (s.pollRestart).fuel = s.fuel ∧ (s.pollRestart).transfer = s.transfer ∧
    (s.pollRestart).store = s.store ∧ (s.pollRestart).lines = s.lines ∧ (s.pollRestart).tx = s.tx ∧
    (s.pollRestart).readBack = s.readBack ∧ (s.pollRestart).draws = s.draws ∧
    (s.pollRestart).pending = s.pending := by
  unfold State.pollRestart
  repeat' (first | split | (dsimp only; split))
  all_goals simp

@[simp] theorem State.handTensions_frame (s : State) (node : Nat) (codes : Bytes) :
    (s.handTensions node codes).now = s.now ∧ (s.handTensions node codes).epoch = s.epoch ∧
    (s.handTensions node codes).straps = s.straps ∧ (s.handTensions node codes).station = s.station ∧
    (s.handTensions node codes).prop = s.prop ∧ (s.handTensions node codes).mach = s.mach ∧
    (s.handTensions node codes).towLine = s.towLine ∧ (s.handTensions node codes).fuel = s.fuel ∧
    (s.handTensions node codes).transfer = s.transfer ∧ (s.handTensions node codes).lines = s.lines ∧
    (s.handTensions node codes).tx = s.tx ∧ (s.handTensions node codes).sent = s.sent ∧
    (s.handTensions node codes).readBack = s.readBack ∧ (s.handTensions node codes).draws = s.draws ∧
    (s.handTensions node codes).pending = s.pending := by
  simp [State.handTensions, State.foldl_now, State.foldl_epoch, State.foldl_straps, State.foldl_station,
    State.foldl_prop, State.foldl_mach, State.foldl_towLine, State.foldl_fuel, State.foldl_transfer,
    State.foldl_lines, State.foldl_tx, State.foldl_sent, State.foldl_readBack, State.foldl_draws,
    State.foldl_pending]

@[simp] theorem State.evalTowNodes_frame (s : State) :
    (s.evalTowNodes).now = s.now ∧ (s.evalTowNodes).epoch = s.epoch ∧ (s.evalTowNodes).straps = s.straps ∧
    (s.evalTowNodes).station = s.station ∧ (s.evalTowNodes).prop = s.prop ∧
    (s.evalTowNodes).steer = s.steer ∧ (s.evalTowNodes).mach = s.mach ∧
    (s.evalTowNodes).towLine = s.towLine ∧ (s.evalTowNodes).coup = s.coup ∧
    (s.evalTowNodes).fuel = s.fuel ∧ (s.evalTowNodes).transfer = s.transfer ∧
    (s.evalTowNodes).store = s.store ∧ (s.evalTowNodes).lines = s.lines ∧ (s.evalTowNodes).tx = s.tx ∧
    (s.evalTowNodes).sent = s.sent ∧ (s.evalTowNodes).readBack = s.readBack ∧
    (s.evalTowNodes).draws = s.draws ∧ (s.evalTowNodes).pending = s.pending := by
  simp [State.evalTowNodes]

@[simp] theorem State.handBowAngle_frame (s : State) (i : Nat) (r : TowReply) :
    (s.handBowAngle i r).now = s.now ∧ (s.handBowAngle i r).epoch = s.epoch ∧
    (s.handBowAngle i r).straps = s.straps ∧ (s.handBowAngle i r).station = s.station ∧
    (s.handBowAngle i r).prop = s.prop ∧ (s.handBowAngle i r).mach = s.mach ∧
    (s.handBowAngle i r).towLine = s.towLine ∧ (s.handBowAngle i r).coup = s.coup ∧
    (s.handBowAngle i r).fuel = s.fuel ∧ (s.handBowAngle i r).transfer = s.transfer ∧
    (s.handBowAngle i r).store = s.store ∧ (s.handBowAngle i r).lines = s.lines ∧
    (s.handBowAngle i r).tx = s.tx ∧ (s.handBowAngle i r).sent = s.sent ∧
    (s.handBowAngle i r).readBack = s.readBack ∧ (s.handBowAngle i r).draws = s.draws ∧
    (s.handBowAngle i r).pending = s.pending := by
  unfold State.handBowAngle
  repeat' (first | split | (dsimp only; split))
  all_goals simp

@[simp] theorem State.goodReply_frame (s : State) (i : Nat) (r : TowReply) :
    (s.goodReply i r).now = s.now ∧ (s.goodReply i r).epoch = s.epoch ∧
    (s.goodReply i r).straps = s.straps ∧ (s.goodReply i r).station = s.station ∧
    (s.goodReply i r).prop = s.prop ∧ (s.goodReply i r).mach = s.mach ∧ (s.goodReply i r).fuel = s.fuel ∧
    (s.goodReply i r).transfer = s.transfer ∧ (s.goodReply i r).lines = s.lines ∧
    (s.goodReply i r).tx = s.tx ∧ (s.goodReply i r).sent = s.sent ∧
    (s.goodReply i r).readBack = s.readBack ∧ (s.goodReply i r).draws = s.draws ∧
    (s.goodReply i r).pending = s.pending := by
  unfold State.goodReply
  repeat' (first | split | (dsimp only; split))
  all_goals simp

@[simp] theorem State.towMiss_frame (s : State) (i : Nat) :
    (s.towMiss i).now = s.now ∧ (s.towMiss i).epoch = s.epoch ∧ (s.towMiss i).straps = s.straps ∧
    (s.towMiss i).station = s.station ∧ (s.towMiss i).prop = s.prop ∧ (s.towMiss i).mach = s.mach ∧
    (s.towMiss i).fuel = s.fuel ∧ (s.towMiss i).transfer = s.transfer ∧ (s.towMiss i).lines = s.lines ∧
    (s.towMiss i).tx = s.tx ∧ (s.towMiss i).sent = s.sent ∧ (s.towMiss i).readBack = s.readBack ∧
    (s.towMiss i).draws = s.draws ∧ (s.towMiss i).pending = s.pending := by
  unfold State.towMiss
  repeat' (first | split | (dsimp only; split))
  all_goals simp

@[simp] theorem State.countInWindow_frame (s : State) (m : MakeUpEntry) (src : Nat) :
    (s.countInWindow m src).now = s.now ∧ (s.countInWindow m src).epoch = s.epoch ∧
    (s.countInWindow m src).straps = s.straps ∧ (s.countInWindow m src).station = s.station ∧
    (s.countInWindow m src).prop = s.prop ∧ (s.countInWindow m src).steer = s.steer ∧
    (s.countInWindow m src).mach = s.mach ∧ (s.countInWindow m src).towLine = s.towLine ∧
    (s.countInWindow m src).coup = s.coup ∧ (s.countInWindow m src).fuel = s.fuel ∧
    (s.countInWindow m src).transfer = s.transfer ∧ (s.countInWindow m src).cond = s.cond ∧
    (s.countInWindow m src).store = s.store ∧ (s.countInWindow m src).tx = s.tx ∧
    (s.countInWindow m src).sent = s.sent ∧ (s.countInWindow m src).readBack = s.readBack ∧
    (s.countInWindow m src).draws = s.draws ∧ (s.countInWindow m src).pending = s.pending := by
  unfold State.countInWindow
  repeat' (first | split | (dsimp only; split))
  all_goals simp

@[simp] theorem State.missedReply_frame (s : State) (src : Nat) (payload : Bytes) :
    (s.missedReply src payload).now = s.now ∧ (s.missedReply src payload).epoch = s.epoch ∧
    (s.missedReply src payload).straps = s.straps ∧ (s.missedReply src payload).station = s.station ∧
    (s.missedReply src payload).prop = s.prop ∧ (s.missedReply src payload).steer = s.steer ∧
    (s.missedReply src payload).mach = s.mach ∧ (s.missedReply src payload).towLine = s.towLine ∧
    (s.missedReply src payload).coup = s.coup ∧ (s.missedReply src payload).fuel = s.fuel ∧
    (s.missedReply src payload).transfer = s.transfer ∧ (s.missedReply src payload).cond = s.cond ∧
    (s.missedReply src payload).store = s.store ∧ (s.missedReply src payload).tx = s.tx ∧
    (s.missedReply src payload).sent = s.sent ∧ (s.missedReply src payload).readBack = s.readBack ∧
    (s.missedReply src payload).draws = s.draws ∧ (s.missedReply src payload).pending = s.pending := by
  unfold State.missedReply
  repeat' (first | split | (dsimp only; split))
  all_goals simp

@[simp] theorem State.endAccess_frame (s : State) (status : Status) (data : Bytes) :
    (s.endAccess status data).now = s.now ∧ (s.endAccess status data).epoch = s.epoch ∧
    (s.endAccess status data).straps = s.straps ∧ (s.endAccess status data).station = s.station ∧
    (s.endAccess status data).prop = s.prop ∧ (s.endAccess status data).mach = s.mach ∧
    (s.endAccess status data).fuel = s.fuel ∧ (s.endAccess status data).transfer = s.transfer ∧
    (s.endAccess status data).lines = s.lines ∧ (s.endAccess status data).readBack = s.readBack ∧
    (s.endAccess status data).draws = s.draws ∧ (s.endAccess status data).pending = s.pending := by
  simp [State.endAccess]

@[simp] theorem State.takeAccess_frame (s : State) (a : NodeAccess) :
    (s.takeAccess a).now = s.now ∧ (s.takeAccess a).epoch = s.epoch ∧ (s.takeAccess a).straps = s.straps ∧
    (s.takeAccess a).station = s.station ∧ (s.takeAccess a).prop = s.prop ∧
    (s.takeAccess a).mach = s.mach ∧ (s.takeAccess a).fuel = s.fuel ∧
    (s.takeAccess a).transfer = s.transfer ∧ (s.takeAccess a).lines = s.lines ∧
    (s.takeAccess a).readBack = s.readBack ∧ (s.takeAccess a).draws = s.draws ∧
    (s.takeAccess a).pending = s.pending := by
  unfold State.takeAccess
  repeat' (first | split | (dsimp only; split))
  all_goals simp

@[simp] theorem State.resetTowNodes_frame (s : State) :
    (s.resetTowNodes).now = s.now ∧ (s.resetTowNodes).epoch = s.epoch ∧
    (s.resetTowNodes).straps = s.straps ∧ (s.resetTowNodes).station = s.station ∧
    (s.resetTowNodes).prop = s.prop ∧ (s.resetTowNodes).steer = s.steer ∧ (s.resetTowNodes).mach = s.mach ∧
    (s.resetTowNodes).coup = s.coup ∧ (s.resetTowNodes).fuel = s.fuel ∧
    (s.resetTowNodes).transfer = s.transfer ∧ (s.resetTowNodes).cond = s.cond ∧
    (s.resetTowNodes).store = s.store ∧ (s.resetTowNodes).lines = s.lines ∧ (s.resetTowNodes).tx = s.tx ∧
    (s.resetTowNodes).sent = s.sent ∧ (s.resetTowNodes).readBack = s.readBack ∧
    (s.resetTowNodes).draws = s.draws ∧ (s.resetTowNodes).pending = s.pending := by
  simp [State.resetTowNodes]

@[simp] theorem State.applyMakeUp_frame (s : State) :
    (s.applyMakeUp).now = s.now ∧ (s.applyMakeUp).epoch = s.epoch ∧ (s.applyMakeUp).straps = s.straps ∧
    (s.applyMakeUp).station = s.station ∧ (s.applyMakeUp).prop = s.prop ∧ (s.applyMakeUp).mach = s.mach ∧
    (s.applyMakeUp).fuel = s.fuel ∧ (s.applyMakeUp).transfer = s.transfer ∧
    (s.applyMakeUp).store = s.store ∧ (s.applyMakeUp).lines = s.lines ∧ (s.applyMakeUp).tx = s.tx ∧
    (s.applyMakeUp).readBack = s.readBack ∧ (s.applyMakeUp).draws = s.draws ∧
    (s.applyMakeUp).pending = s.pending := by
  unfold State.applyMakeUp
  repeat' (first | split | (dsimp only; split))
  all_goals simp

@[simp] theorem State.resetTow_frame (s : State) :
    (s.resetTow).now = s.now ∧ (s.resetTow).epoch = s.epoch ∧ (s.resetTow).straps = s.straps ∧
    (s.resetTow).station = s.station ∧ (s.resetTow).prop = s.prop ∧ (s.resetTow).steer = s.steer ∧
    (s.resetTow).mach = s.mach ∧ (s.resetTow).coup = s.coup ∧ (s.resetTow).fuel = s.fuel ∧
    (s.resetTow).transfer = s.transfer ∧ (s.resetTow).cond = s.cond ∧ (s.resetTow).store = s.store ∧
    (s.resetTow).lines = s.lines ∧ (s.resetTow).tx = s.tx ∧ (s.resetTow).sent = s.sent ∧
    (s.resetTow).readBack = s.readBack ∧ (s.resetTow).draws = s.draws ∧
    (s.resetTow).pending = s.pending := by
  simp [State.resetTow]

@[simp] theorem State.startTow_frame (s : State) :
    (s.startTow).now = s.now ∧ (s.startTow).epoch = s.epoch ∧ (s.startTow).straps = s.straps ∧
    (s.startTow).station = s.station ∧ (s.startTow).prop = s.prop ∧ (s.startTow).mach = s.mach ∧
    (s.startTow).fuel = s.fuel ∧ (s.startTow).transfer = s.transfer ∧ (s.startTow).store = s.store ∧
    (s.startTow).lines = s.lines ∧ (s.startTow).tx = s.tx ∧ (s.startTow).readBack = s.readBack ∧
    (s.startTow).draws = s.draws ∧ (s.startTow).pending = s.pending := by
  unfold State.startTow
  repeat' (first | split | (dsimp only; split))
  all_goals simp

/-! ## Operations of Machine/Fuel.lean -/

@[simp] theorem State.modBook_frame (s : State) (i : Fin 12) (f : Book → Book) :
    (s.modBook i f).now = s.now ∧ (s.modBook i f).epoch = s.epoch ∧ (s.modBook i f).straps = s.straps ∧
    (s.modBook i f).station = s.station ∧ (s.modBook i f).prop = s.prop ∧ (s.modBook i f).steer = s.steer ∧
    (s.modBook i f).mach = s.mach ∧ (s.modBook i f).towLine = s.towLine ∧ (s.modBook i f).coup = s.coup ∧
    (s.modBook i f).transfer = s.transfer ∧ (s.modBook i f).cond = s.cond ∧
    (s.modBook i f).store = s.store ∧ (s.modBook i f).lines = s.lines ∧ (s.modBook i f).tx = s.tx ∧
    (s.modBook i f).sent = s.sent ∧ (s.modBook i f).readBack = s.readBack ∧
    (s.modBook i f).draws = s.draws ∧ (s.modBook i f).pending = s.pending := by
  simp [State.modBook]

@[simp] theorem State.bookOf_frame (s : State) (index : Nat) (f : Book → Book) :
    (s.bookOf index f).now = s.now ∧ (s.bookOf index f).epoch = s.epoch ∧
    (s.bookOf index f).straps = s.straps ∧ (s.bookOf index f).station = s.station ∧
    (s.bookOf index f).prop = s.prop ∧ (s.bookOf index f).steer = s.steer ∧
    (s.bookOf index f).mach = s.mach ∧ (s.bookOf index f).towLine = s.towLine ∧
    (s.bookOf index f).coup = s.coup ∧ (s.bookOf index f).transfer = s.transfer ∧
    (s.bookOf index f).cond = s.cond ∧ (s.bookOf index f).store = s.store ∧
    (s.bookOf index f).lines = s.lines ∧ (s.bookOf index f).tx = s.tx ∧ (s.bookOf index f).sent = s.sent ∧
    (s.bookOf index f).readBack = s.readBack ∧ (s.bookOf index f).draws = s.draws ∧
    (s.bookOf index f).pending = s.pending := by
  unfold State.bookOf
  repeat' (first | split | (dsimp only; split))
  all_goals simp

@[simp] theorem State.charge_frame (s : State) (i : Fin 6) (e : ConsumerEntry) (n f : Int) :
    (s.charge i e n f).now = s.now ∧ (s.charge i e n f).epoch = s.epoch ∧
    (s.charge i e n f).straps = s.straps ∧ (s.charge i e n f).station = s.station ∧
    (s.charge i e n f).prop = s.prop ∧ (s.charge i e n f).steer = s.steer ∧
    (s.charge i e n f).mach = s.mach ∧ (s.charge i e n f).towLine = s.towLine ∧
    (s.charge i e n f).coup = s.coup ∧ (s.charge i e n f).transfer = s.transfer ∧
    (s.charge i e n f).cond = s.cond ∧ (s.charge i e n f).store = s.store ∧
    (s.charge i e n f).lines = s.lines ∧ (s.charge i e n f).tx = s.tx ∧ (s.charge i e n f).sent = s.sent ∧
    (s.charge i e n f).readBack = s.readBack ∧ (s.charge i e n f).draws = s.draws ∧
    (s.charge i e n f).pending = s.pending := by
  unfold State.charge
  repeat' (first | split | (dsimp only; split))
  all_goals simp

@[simp] theorem State.evalMeterFault_frame (s : State) :
    (s.evalMeterFault).now = s.now ∧ (s.evalMeterFault).epoch = s.epoch ∧
    (s.evalMeterFault).straps = s.straps ∧ (s.evalMeterFault).station = s.station ∧
    (s.evalMeterFault).prop = s.prop ∧ (s.evalMeterFault).steer = s.steer ∧
    (s.evalMeterFault).mach = s.mach ∧ (s.evalMeterFault).towLine = s.towLine ∧
    (s.evalMeterFault).coup = s.coup ∧ (s.evalMeterFault).fuel = s.fuel ∧
    (s.evalMeterFault).transfer = s.transfer ∧ (s.evalMeterFault).store = s.store ∧
    (s.evalMeterFault).lines = s.lines ∧ (s.evalMeterFault).tx = s.tx ∧ (s.evalMeterFault).sent = s.sent ∧
    (s.evalMeterFault).readBack = s.readBack ∧ (s.evalMeterFault).draws = s.draws ∧
    (s.evalMeterFault).pending = s.pending := by
  simp [State.evalMeterFault]

@[simp] theorem State.estimate_frame (s : State) (i : Fin 6) (e : ConsumerEntry) (h : HeldEstimate) (g : Nat) :
    (s.estimate i e h g).now = s.now ∧ (s.estimate i e h g).epoch = s.epoch ∧
    (s.estimate i e h g).straps = s.straps ∧ (s.estimate i e h g).station = s.station ∧
    (s.estimate i e h g).prop = s.prop ∧ (s.estimate i e h g).steer = s.steer ∧
    (s.estimate i e h g).mach = s.mach ∧ (s.estimate i e h g).towLine = s.towLine ∧
    (s.estimate i e h g).coup = s.coup ∧ (s.estimate i e h g).transfer = s.transfer ∧
    (s.estimate i e h g).cond = s.cond ∧ (s.estimate i e h g).store = s.store ∧
    (s.estimate i e h g).lines = s.lines ∧ (s.estimate i e h g).tx = s.tx ∧
    (s.estimate i e h g).sent = s.sent ∧ (s.estimate i e h g).readBack = s.readBack ∧
    (s.estimate i e h g).draws = s.draws ∧ (s.estimate i e h g).pending = s.pending := by
  simp [State.estimate]

@[simp] theorem State.meterMeasured_frame (s : State) (i : Fin 6) (e : ConsumerEntry) (m : MeterEntry) :
    (s.meterMeasured i e m).now = s.now ∧ (s.meterMeasured i e m).epoch = s.epoch ∧
    (s.meterMeasured i e m).straps = s.straps ∧ (s.meterMeasured i e m).station = s.station ∧
    (s.meterMeasured i e m).prop = s.prop ∧ (s.meterMeasured i e m).steer = s.steer ∧
    (s.meterMeasured i e m).mach = s.mach ∧ (s.meterMeasured i e m).towLine = s.towLine ∧
    (s.meterMeasured i e m).coup = s.coup ∧ (s.meterMeasured i e m).transfer = s.transfer ∧
    (s.meterMeasured i e m).cond = s.cond ∧ (s.meterMeasured i e m).store = s.store ∧
    (s.meterMeasured i e m).lines = s.lines ∧ (s.meterMeasured i e m).tx = s.tx ∧
    (s.meterMeasured i e m).sent = s.sent ∧ (s.meterMeasured i e m).readBack = s.readBack ∧
    (s.meterMeasured i e m).draws = s.draws ∧ (s.meterMeasured i e m).pending = s.pending := by
  unfold State.meterMeasured
  repeat' (first | split | (dsimp only; split))
  all_goals simp

@[simp] theorem State.meterRebased_frame (s : State) (i : Fin 6) (e : ConsumerEntry) (m : MeterEntry) :
    (s.meterRebased i e m).now = s.now ∧ (s.meterRebased i e m).epoch = s.epoch ∧
    (s.meterRebased i e m).straps = s.straps ∧ (s.meterRebased i e m).station = s.station ∧
    (s.meterRebased i e m).prop = s.prop ∧ (s.meterRebased i e m).steer = s.steer ∧
    (s.meterRebased i e m).mach = s.mach ∧ (s.meterRebased i e m).towLine = s.towLine ∧
    (s.meterRebased i e m).coup = s.coup ∧ (s.meterRebased i e m).transfer = s.transfer ∧
    (s.meterRebased i e m).cond = s.cond ∧ (s.meterRebased i e m).store = s.store ∧
    (s.meterRebased i e m).lines = s.lines ∧ (s.meterRebased i e m).tx = s.tx ∧
    (s.meterRebased i e m).sent = s.sent ∧ (s.meterRebased i e m).readBack = s.readBack ∧
    (s.meterRebased i e m).draws = s.draws ∧ (s.meterRebased i e m).pending = s.pending := by
  unfold State.meterRebased
  repeat' (first | split | (dsimp only; split))
  all_goals simp

@[simp] theorem State.meterEntry_frame (s : State) (i : Fin 6) (e : ConsumerEntry) (m : MeterEntry) :
    (s.meterEntry i e m).now = s.now ∧ (s.meterEntry i e m).epoch = s.epoch ∧
    (s.meterEntry i e m).straps = s.straps ∧ (s.meterEntry i e m).station = s.station ∧
    (s.meterEntry i e m).prop = s.prop ∧ (s.meterEntry i e m).steer = s.steer ∧
    (s.meterEntry i e m).mach = s.mach ∧ (s.meterEntry i e m).towLine = s.towLine ∧
    (s.meterEntry i e m).coup = s.coup ∧ (s.meterEntry i e m).transfer = s.transfer ∧
    (s.meterEntry i e m).store = s.store ∧ (s.meterEntry i e m).lines = s.lines ∧
    (s.meterEntry i e m).tx = s.tx ∧ (s.meterEntry i e m).sent = s.sent ∧
    (s.meterEntry i e m).readBack = s.readBack ∧ (s.meterEntry i e m).draws = s.draws ∧
    (s.meterEntry i e m).pending = s.pending := by
  unfold State.meterEntry
  repeat' (first | split | (dsimp only; split))
  all_goals simp

@[simp] theorem State.meterReport_frame (s : State) (address : Nat) (b : Bytes) :
    (s.meterReport address b).now = s.now ∧ (s.meterReport address b).epoch = s.epoch ∧
    (s.meterReport address b).straps = s.straps ∧ (s.meterReport address b).station = s.station ∧
    (s.meterReport address b).prop = s.prop ∧ (s.meterReport address b).steer = s.steer ∧
    (s.meterReport address b).mach = s.mach ∧ (s.meterReport address b).towLine = s.towLine ∧
    (s.meterReport address b).coup = s.coup ∧ (s.meterReport address b).transfer = s.transfer ∧
    (s.meterReport address b).store = s.store ∧ (s.meterReport address b).lines = s.lines ∧
    (s.meterReport address b).tx = s.tx ∧ (s.meterReport address b).sent = s.sent ∧
    (s.meterReport address b).readBack = s.readBack ∧ (s.meterReport address b).draws = s.draws ∧
    (s.meterReport address b).pending = s.pending := by
  unfold State.meterReport
  refine ⟨State.onConsumersOf_keeps State.now _ (fun t i e => ?_) s _,
    State.onConsumersOf_keeps State.epoch _ (fun t i e => ?_) s _,
    State.onConsumersOf_keeps State.straps _ (fun t i e => ?_) s _,
    State.onConsumersOf_keeps State.station _ (fun t i e => ?_) s _,
    State.onConsumersOf_keeps State.prop _ (fun t i e => ?_) s _,
    State.onConsumersOf_keeps State.steer _ (fun t i e => ?_) s _,
    State.onConsumersOf_keeps State.mach _ (fun t i e => ?_) s _,
    State.onConsumersOf_keeps State.towLine _ (fun t i e => ?_) s _,
    State.onConsumersOf_keeps State.coup _ (fun t i e => ?_) s _,
    State.onConsumersOf_keeps State.transfer _ (fun t i e => ?_) s _,
    State.onConsumersOf_keeps State.store _ (fun t i e => ?_) s _,
    State.onConsumersOf_keeps State.lines _ (fun t i e => ?_) s _,
    State.onConsumersOf_keeps State.tx _ (fun t i e => ?_) s _,
    State.onConsumersOf_keeps State.sent _ (fun t i e => ?_) s _,
    State.onConsumersOf_keeps State.readBack _ (fun t i e => ?_) s _,
    State.onConsumersOf_keeps State.draws _ (fun t i e => ?_) s _,
    State.onConsumersOf_keeps State.pending _ (fun t i e => ?_) s _⟩ <;>
    first | (simp; done) | (split <;> simp)

@[simp] theorem State.meterMiss_frame (s : State) (address : Nat) :
    (s.meterMiss address).now = s.now ∧ (s.meterMiss address).epoch = s.epoch ∧
    (s.meterMiss address).straps = s.straps ∧ (s.meterMiss address).station = s.station ∧
    (s.meterMiss address).prop = s.prop ∧ (s.meterMiss address).steer = s.steer ∧
    (s.meterMiss address).mach = s.mach ∧ (s.meterMiss address).towLine = s.towLine ∧
    (s.meterMiss address).coup = s.coup ∧ (s.meterMiss address).transfer = s.transfer ∧
    (s.meterMiss address).cond = s.cond ∧ (s.meterMiss address).store = s.store ∧
    (s.meterMiss address).lines = s.lines ∧ (s.meterMiss address).tx = s.tx ∧
    (s.meterMiss address).sent = s.sent ∧ (s.meterMiss address).readBack = s.readBack ∧
    (s.meterMiss address).draws = s.draws ∧ (s.meterMiss address).pending = s.pending := by
  unfold State.meterMiss
  refine ⟨State.onConsumersOf_keeps State.now _ (fun t i e => ?_) s _,
    State.onConsumersOf_keeps State.epoch _ (fun t i e => ?_) s _,
    State.onConsumersOf_keeps State.straps _ (fun t i e => ?_) s _,
    State.onConsumersOf_keeps State.station _ (fun t i e => ?_) s _,
    State.onConsumersOf_keeps State.prop _ (fun t i e => ?_) s _,
    State.onConsumersOf_keeps State.steer _ (fun t i e => ?_) s _,
    State.onConsumersOf_keeps State.mach _ (fun t i e => ?_) s _,
    State.onConsumersOf_keeps State.towLine _ (fun t i e => ?_) s _,
    State.onConsumersOf_keeps State.coup _ (fun t i e => ?_) s _,
    State.onConsumersOf_keeps State.transfer _ (fun t i e => ?_) s _,
    State.onConsumersOf_keeps State.cond _ (fun t i e => ?_) s _,
    State.onConsumersOf_keeps State.store _ (fun t i e => ?_) s _,
    State.onConsumersOf_keeps State.lines _ (fun t i e => ?_) s _,
    State.onConsumersOf_keeps State.tx _ (fun t i e => ?_) s _,
    State.onConsumersOf_keeps State.sent _ (fun t i e => ?_) s _,
    State.onConsumersOf_keeps State.readBack _ (fun t i e => ?_) s _,
    State.onConsumersOf_keeps State.draws _ (fun t i e => ?_) s _,
    State.onConsumersOf_keeps State.pending _ (fun t i e => ?_) s _⟩ <;>
    first | (simp; done) | (split <;> simp)

@[simp] theorem State.meterLost_frame (s : State) (address : Nat) :
    (s.meterLost address).now = s.now ∧ (s.meterLost address).epoch = s.epoch ∧
    (s.meterLost address).straps = s.straps ∧ (s.meterLost address).station = s.station ∧
    (s.meterLost address).prop = s.prop ∧ (s.meterLost address).steer = s.steer ∧
    (s.meterLost address).mach = s.mach ∧ (s.meterLost address).towLine = s.towLine ∧
    (s.meterLost address).coup = s.coup ∧ (s.meterLost address).transfer = s.transfer ∧
    (s.meterLost address).cond = s.cond ∧ (s.meterLost address).store = s.store ∧
    (s.meterLost address).lines = s.lines ∧ (s.meterLost address).tx = s.tx ∧
    (s.meterLost address).sent = s.sent ∧ (s.meterLost address).readBack = s.readBack ∧
    (s.meterLost address).draws = s.draws ∧ (s.meterLost address).pending = s.pending := by
  unfold State.meterLost
  refine ⟨State.onConsumersOf_keeps State.now _ (fun t i e => ?_) s _,
    State.onConsumersOf_keeps State.epoch _ (fun t i e => ?_) s _,
    State.onConsumersOf_keeps State.straps _ (fun t i e => ?_) s _,
    State.onConsumersOf_keeps State.station _ (fun t i e => ?_) s _,
    State.onConsumersOf_keeps State.prop _ (fun t i e => ?_) s _,
    State.onConsumersOf_keeps State.steer _ (fun t i e => ?_) s _,
    State.onConsumersOf_keeps State.mach _ (fun t i e => ?_) s _,
    State.onConsumersOf_keeps State.towLine _ (fun t i e => ?_) s _,
    State.onConsumersOf_keeps State.coup _ (fun t i e => ?_) s _,
    State.onConsumersOf_keeps State.transfer _ (fun t i e => ?_) s _,
    State.onConsumersOf_keeps State.cond _ (fun t i e => ?_) s _,
    State.onConsumersOf_keeps State.store _ (fun t i e => ?_) s _,
    State.onConsumersOf_keeps State.lines _ (fun t i e => ?_) s _,
    State.onConsumersOf_keeps State.tx _ (fun t i e => ?_) s _,
    State.onConsumersOf_keeps State.sent _ (fun t i e => ?_) s _,
    State.onConsumersOf_keeps State.readBack _ (fun t i e => ?_) s _,
    State.onConsumersOf_keeps State.draws _ (fun t i e => ?_) s _,
    State.onConsumersOf_keeps State.pending _ (fun t i e => ?_) s _⟩ <;>
    first | (simp; done) | (split <;> simp)

@[simp] theorem State.evalFeedLow_frame (s : State) :
    (s.evalFeedLow).now = s.now ∧ (s.evalFeedLow).epoch = s.epoch ∧ (s.evalFeedLow).straps = s.straps ∧
    (s.evalFeedLow).station = s.station ∧ (s.evalFeedLow).prop = s.prop ∧ (s.evalFeedLow).steer = s.steer ∧
    (s.evalFeedLow).mach = s.mach ∧ (s.evalFeedLow).towLine = s.towLine ∧ (s.evalFeedLow).coup = s.coup ∧
    (s.evalFeedLow).fuel = s.fuel ∧ (s.evalFeedLow).transfer = s.transfer ∧
    (s.evalFeedLow).store = s.store ∧ (s.evalFeedLow).lines = s.lines ∧ (s.evalFeedLow).tx = s.tx ∧
    (s.evalFeedLow).sent = s.sent ∧ (s.evalFeedLow).readBack = s.readBack ∧
    (s.evalFeedLow).draws = s.draws ∧ (s.evalFeedLow).pending = s.pending := by
  simp [State.evalFeedLow]

@[simp] theorem State.evalDiscrepancy_frame (s : State) :
    (s.evalDiscrepancy).now = s.now ∧ (s.evalDiscrepancy).epoch = s.epoch ∧
    (s.evalDiscrepancy).straps = s.straps ∧ (s.evalDiscrepancy).station = s.station ∧
    (s.evalDiscrepancy).prop = s.prop ∧ (s.evalDiscrepancy).steer = s.steer ∧
    (s.evalDiscrepancy).mach = s.mach ∧ (s.evalDiscrepancy).towLine = s.towLine ∧
    (s.evalDiscrepancy).coup = s.coup ∧ (s.evalDiscrepancy).fuel = s.fuel ∧
    (s.evalDiscrepancy).transfer = s.transfer ∧ (s.evalDiscrepancy).store = s.store ∧
    (s.evalDiscrepancy).lines = s.lines ∧ (s.evalDiscrepancy).tx = s.tx ∧
    (s.evalDiscrepancy).sent = s.sent ∧ (s.evalDiscrepancy).readBack = s.readBack ∧
    (s.evalDiscrepancy).draws = s.draws ∧ (s.evalDiscrepancy).pending = s.pending := by
  simp [State.evalDiscrepancy]

@[simp] theorem State.gaugeTank_frame (s : State) (i : Fin 12) (e : TankEntry) (nodeLost : Bool) (entry : Option Nat) :
    (s.gaugeTank i e nodeLost entry).now = s.now ∧ (s.gaugeTank i e nodeLost entry).epoch = s.epoch ∧
    (s.gaugeTank i e nodeLost entry).straps = s.straps ∧
    (s.gaugeTank i e nodeLost entry).station = s.station ∧ (s.gaugeTank i e nodeLost entry).prop = s.prop ∧
    (s.gaugeTank i e nodeLost entry).steer = s.steer ∧ (s.gaugeTank i e nodeLost entry).mach = s.mach ∧
    (s.gaugeTank i e nodeLost entry).towLine = s.towLine ∧ (s.gaugeTank i e nodeLost entry).coup = s.coup ∧
    (s.gaugeTank i e nodeLost entry).transfer = s.transfer ∧
    (s.gaugeTank i e nodeLost entry).store = s.store ∧ (s.gaugeTank i e nodeLost entry).lines = s.lines ∧
    (s.gaugeTank i e nodeLost entry).tx = s.tx ∧ (s.gaugeTank i e nodeLost entry).sent = s.sent ∧
    (s.gaugeTank i e nodeLost entry).readBack = s.readBack ∧
    (s.gaugeTank i e nodeLost entry).draws = s.draws ∧ (s.gaugeTank i e nodeLost entry).pending = s.pending := by
  unfold State.gaugeTank
  repeat' (first | split | (dsimp only; split))
  all_goals simp

@[simp] theorem State.gaugeNodeChange_frame (s : State) (address : Nat) (lost : Bool) :
    (s.gaugeNodeChange address lost).now = s.now ∧ (s.gaugeNodeChange address lost).epoch = s.epoch ∧
    (s.gaugeNodeChange address lost).straps = s.straps ∧
    (s.gaugeNodeChange address lost).station = s.station ∧ (s.gaugeNodeChange address lost).prop = s.prop ∧
    (s.gaugeNodeChange address lost).steer = s.steer ∧ (s.gaugeNodeChange address lost).mach = s.mach ∧
    (s.gaugeNodeChange address lost).towLine = s.towLine ∧ (s.gaugeNodeChange address lost).coup = s.coup ∧
    (s.gaugeNodeChange address lost).transfer = s.transfer ∧
    (s.gaugeNodeChange address lost).cond = s.cond ∧ (s.gaugeNodeChange address lost).store = s.store ∧
    (s.gaugeNodeChange address lost).lines = s.lines ∧ (s.gaugeNodeChange address lost).tx = s.tx ∧
    (s.gaugeNodeChange address lost).sent = s.sent ∧
    (s.gaugeNodeChange address lost).readBack = s.readBack ∧
    (s.gaugeNodeChange address lost).draws = s.draws ∧ (s.gaugeNodeChange address lost).pending = s.pending := by
  unfold State.gaugeNodeChange
  refine ⟨State.onTanksOf_keeps State.now _ (fun t i e => ?_) s _,
    State.onTanksOf_keeps State.epoch _ (fun t i e => ?_) s _,
    State.onTanksOf_keeps State.straps _ (fun t i e => ?_) s _,
    State.onTanksOf_keeps State.station _ (fun t i e => ?_) s _,
    State.onTanksOf_keeps State.prop _ (fun t i e => ?_) s _,
    State.onTanksOf_keeps State.steer _ (fun t i e => ?_) s _,
    State.onTanksOf_keeps State.mach _ (fun t i e => ?_) s _,
    State.onTanksOf_keeps State.towLine _ (fun t i e => ?_) s _,
    State.onTanksOf_keeps State.coup _ (fun t i e => ?_) s _,
    State.onTanksOf_keeps State.transfer _ (fun t i e => ?_) s _,
    State.onTanksOf_keeps State.cond _ (fun t i e => ?_) s _,
    State.onTanksOf_keeps State.store _ (fun t i e => ?_) s _,
    State.onTanksOf_keeps State.lines _ (fun t i e => ?_) s _,
    State.onTanksOf_keeps State.tx _ (fun t i e => ?_) s _,
    State.onTanksOf_keeps State.sent _ (fun t i e => ?_) s _,
    State.onTanksOf_keeps State.readBack _ (fun t i e => ?_) s _,
    State.onTanksOf_keeps State.draws _ (fun t i e => ?_) s _,
    State.onTanksOf_keeps State.pending _ (fun t i e => ?_) s _⟩ <;>
    first | (simp; done) | (split <;> simp)

@[simp] theorem State.writeOwed_frame (s : State) (i : StoreItem) :
    (s.writeOwed i).now = s.now ∧ (s.writeOwed i).epoch = s.epoch ∧ (s.writeOwed i).straps = s.straps ∧
    (s.writeOwed i).station = s.station ∧ (s.writeOwed i).prop = s.prop ∧ (s.writeOwed i).steer = s.steer ∧
    (s.writeOwed i).mach = s.mach ∧ (s.writeOwed i).towLine = s.towLine ∧ (s.writeOwed i).coup = s.coup ∧
    (s.writeOwed i).fuel = s.fuel ∧ (s.writeOwed i).transfer = s.transfer ∧ (s.writeOwed i).cond = s.cond ∧
    (s.writeOwed i).lines = s.lines ∧ (s.writeOwed i).tx = s.tx ∧ (s.writeOwed i).sent = s.sent ∧
    (s.writeOwed i).readBack = s.readBack ∧ (s.writeOwed i).draws = s.draws ∧
    (s.writeOwed i).pending = s.pending := by
  unfold State.writeOwed
  repeat' (first | split | (dsimp only; split))
  all_goals simp

@[simp] theorem State.accountSave_frame (s : State) :
    (s.accountSave).now = s.now ∧ (s.accountSave).epoch = s.epoch ∧ (s.accountSave).straps = s.straps ∧
    (s.accountSave).station = s.station ∧ (s.accountSave).prop = s.prop ∧ (s.accountSave).steer = s.steer ∧
    (s.accountSave).mach = s.mach ∧ (s.accountSave).towLine = s.towLine ∧ (s.accountSave).coup = s.coup ∧
    (s.accountSave).fuel = s.fuel ∧ (s.accountSave).transfer = s.transfer ∧ (s.accountSave).cond = s.cond ∧
    (s.accountSave).lines = s.lines ∧ (s.accountSave).tx = s.tx ∧ (s.accountSave).sent = s.sent ∧
    (s.accountSave).readBack = s.readBack ∧ (s.accountSave).draws = s.draws ∧
    (s.accountSave).pending = s.pending := by
  simp [State.accountSave]

@[simp] theorem State.bunkerReceipt_frame (s : State) (index quantity : Nat) :
    (s.bunkerReceipt index quantity).now = s.now ∧ (s.bunkerReceipt index quantity).epoch = s.epoch ∧
    (s.bunkerReceipt index quantity).straps = s.straps ∧
    (s.bunkerReceipt index quantity).station = s.station ∧ (s.bunkerReceipt index quantity).prop = s.prop ∧
    (s.bunkerReceipt index quantity).steer = s.steer ∧ (s.bunkerReceipt index quantity).mach = s.mach ∧
    (s.bunkerReceipt index quantity).towLine = s.towLine ∧ (s.bunkerReceipt index quantity).coup = s.coup ∧
    (s.bunkerReceipt index quantity).transfer = s.transfer ∧
    (s.bunkerReceipt index quantity).cond = s.cond ∧ (s.bunkerReceipt index quantity).lines = s.lines ∧
    (s.bunkerReceipt index quantity).sent = s.sent ∧
    (s.bunkerReceipt index quantity).readBack = s.readBack ∧
    (s.bunkerReceipt index quantity).draws = s.draws ∧ (s.bunkerReceipt index quantity).pending = s.pending := by
  unfold State.bunkerReceipt
  repeat' (first | split | (dsimp only; split))
  all_goals simp

@[simp] theorem State.openBook_frame (s : State) (i : Fin 12) (x : Int) :
    (s.openBook i x).now = s.now ∧ (s.openBook i x).epoch = s.epoch ∧ (s.openBook i x).straps = s.straps ∧
    (s.openBook i x).station = s.station ∧ (s.openBook i x).prop = s.prop ∧
    (s.openBook i x).steer = s.steer ∧ (s.openBook i x).mach = s.mach ∧
    (s.openBook i x).towLine = s.towLine ∧ (s.openBook i x).coup = s.coup ∧
    (s.openBook i x).transfer = s.transfer ∧ (s.openBook i x).lines = s.lines ∧
    (s.openBook i x).sent = s.sent ∧ (s.openBook i x).readBack = s.readBack ∧
    (s.openBook i x).draws = s.draws ∧ (s.openBook i x).pending = s.pending := by
  simp [State.openBook]

@[simp] theorem State.setTankBook_frame (s : State) (station index choice value : Nat) :
    (s.setTankBook station index choice value).now = s.now ∧
    (s.setTankBook station index choice value).epoch = s.epoch ∧
    (s.setTankBook station index choice value).straps = s.straps ∧
    (s.setTankBook station index choice value).station = s.station ∧
    (s.setTankBook station index choice value).prop = s.prop ∧
    (s.setTankBook station index choice value).steer = s.steer ∧
    (s.setTankBook station index choice value).mach = s.mach ∧
    (s.setTankBook station index choice value).towLine = s.towLine ∧
    (s.setTankBook station index choice value).coup = s.coup ∧
    (s.setTankBook station index choice value).transfer = s.transfer ∧
    (s.setTankBook station index choice value).lines = s.lines ∧
    (s.setTankBook station index choice value).sent = s.sent ∧
    (s.setTankBook station index choice value).readBack = s.readBack ∧
    (s.setTankBook station index choice value).draws = s.draws ∧
    (s.setTankBook station index choice value).pending = s.pending := by
  unfold State.setTankBook
  repeat' (first | split | (dsimp only; split))
  all_goals simp

@[simp] theorem State.zeroConsumer_frame (s : State) (pos : Nat) :
    (s.zeroConsumer pos).now = s.now ∧ (s.zeroConsumer pos).epoch = s.epoch ∧
    (s.zeroConsumer pos).straps = s.straps ∧ (s.zeroConsumer pos).station = s.station ∧
    (s.zeroConsumer pos).prop = s.prop ∧ (s.zeroConsumer pos).steer = s.steer ∧
    (s.zeroConsumer pos).mach = s.mach ∧ (s.zeroConsumer pos).towLine = s.towLine ∧
    (s.zeroConsumer pos).coup = s.coup ∧ (s.zeroConsumer pos).transfer = s.transfer ∧
    (s.zeroConsumer pos).lines = s.lines ∧ (s.zeroConsumer pos).sent = s.sent ∧
    (s.zeroConsumer pos).readBack = s.readBack ∧ (s.zeroConsumer pos).draws = s.draws ∧
    (s.zeroConsumer pos).pending = s.pending := by
  unfold State.zeroConsumer
  repeat' (first | split | (dsimp only; split))
  all_goals simp

@[simp] theorem State.applyFuelTable_frame (s old : State) :
    (s.applyFuelTable old).now = s.now ∧ (s.applyFuelTable old).epoch = s.epoch ∧
    (s.applyFuelTable old).straps = s.straps ∧ (s.applyFuelTable old).station = s.station ∧
    (s.applyFuelTable old).prop = s.prop ∧ (s.applyFuelTable old).steer = s.steer ∧
    (s.applyFuelTable old).mach = s.mach ∧ (s.applyFuelTable old).towLine = s.towLine ∧
    (s.applyFuelTable old).coup = s.coup ∧ (s.applyFuelTable old).transfer = s.transfer ∧
    (s.applyFuelTable old).store = s.store ∧ (s.applyFuelTable old).lines = s.lines ∧
    (s.applyFuelTable old).tx = s.tx ∧ (s.applyFuelTable old).sent = s.sent ∧
    (s.applyFuelTable old).readBack = s.readBack ∧ (s.applyFuelTable old).draws = s.draws ∧
    (s.applyFuelTable old).pending = s.pending := by
  simp [State.applyFuelTable]

@[simp] theorem State.restartFuel_frame (s : State) :
    (s.restartFuel).now = s.now ∧ (s.restartFuel).epoch = s.epoch ∧ (s.restartFuel).straps = s.straps ∧
    (s.restartFuel).station = s.station ∧ (s.restartFuel).prop = s.prop ∧ (s.restartFuel).steer = s.steer ∧
    (s.restartFuel).mach = s.mach ∧ (s.restartFuel).towLine = s.towLine ∧ (s.restartFuel).coup = s.coup ∧
    (s.restartFuel).transfer = s.transfer ∧ (s.restartFuel).cond = s.cond ∧
    (s.restartFuel).store = s.store ∧ (s.restartFuel).lines = s.lines ∧ (s.restartFuel).tx = s.tx ∧
    (s.restartFuel).sent = s.sent ∧ (s.restartFuel).readBack = s.readBack ∧
    (s.restartFuel).draws = s.draws ∧ (s.restartFuel).pending = s.pending := by
  simp [State.restartFuel]

@[simp] theorem State.restoreFuel_frame (s : State) (foundAccounts foundBooks : List Nat) :
    (s.restoreFuel foundAccounts foundBooks).now = s.now ∧
    (s.restoreFuel foundAccounts foundBooks).epoch = s.epoch ∧
    (s.restoreFuel foundAccounts foundBooks).straps = s.straps ∧
    (s.restoreFuel foundAccounts foundBooks).station = s.station ∧
    (s.restoreFuel foundAccounts foundBooks).prop = s.prop ∧
    (s.restoreFuel foundAccounts foundBooks).steer = s.steer ∧
    (s.restoreFuel foundAccounts foundBooks).mach = s.mach ∧
    (s.restoreFuel foundAccounts foundBooks).towLine = s.towLine ∧
    (s.restoreFuel foundAccounts foundBooks).coup = s.coup ∧
    (s.restoreFuel foundAccounts foundBooks).transfer = s.transfer ∧
    (s.restoreFuel foundAccounts foundBooks).cond = s.cond ∧
    (s.restoreFuel foundAccounts foundBooks).lines = s.lines ∧
    (s.restoreFuel foundAccounts foundBooks).tx = s.tx ∧
    (s.restoreFuel foundAccounts foundBooks).sent = s.sent ∧
    (s.restoreFuel foundAccounts foundBooks).readBack = s.readBack ∧
    (s.restoreFuel foundAccounts foundBooks).draws = s.draws ∧
    (s.restoreFuel foundAccounts foundBooks).pending = s.pending := by
  unfold State.restoreFuel
  repeat' (first | split | (dsimp only; split))
  all_goals simp

/-! ## Operations of Machine/Transfer.lean -/

@[simp] theorem State.acceptRun_frame (s : State) (source dest target : Nat) (origin : Option Nat) :
    (s.acceptRun source dest target origin).now = s.now ∧
    (s.acceptRun source dest target origin).epoch = s.epoch ∧
    (s.acceptRun source dest target origin).straps = s.straps ∧
    (s.acceptRun source dest target origin).station = s.station ∧
    (s.acceptRun source dest target origin).prop = s.prop ∧
    (s.acceptRun source dest target origin).steer = s.steer ∧
    (s.acceptRun source dest target origin).mach = s.mach ∧
    (s.acceptRun source dest target origin).towLine = s.towLine ∧
    (s.acceptRun source dest target origin).coup = s.coup ∧
    (s.acceptRun source dest target origin).fuel = s.fuel ∧
    (s.acceptRun source dest target origin).cond = s.cond ∧
    (s.acceptRun source dest target origin).lines = s.lines ∧
    (s.acceptRun source dest target origin).tx = s.tx ∧
    (s.acceptRun source dest target origin).sent = s.sent ∧
    (s.acceptRun source dest target origin).readBack = s.readBack ∧
    (s.acceptRun source dest target origin).draws = s.draws ∧
    (s.acceptRun source dest target origin).pending = s.pending := by
  simp [State.acceptRun]

@[simp] theorem State.autoStart_frame (s : State) (r : Fin 4) (rule : RefillRule) :
    (s.autoStart r rule).now = s.now ∧ (s.autoStart r rule).epoch = s.epoch ∧
    (s.autoStart r rule).straps = s.straps ∧ (s.autoStart r rule).station = s.station ∧
    (s.autoStart r rule).prop = s.prop ∧ (s.autoStart r rule).steer = s.steer ∧
    (s.autoStart r rule).mach = s.mach ∧ (s.autoStart r rule).towLine = s.towLine ∧
    (s.autoStart r rule).coup = s.coup ∧ (s.autoStart r rule).fuel = s.fuel ∧
    (s.autoStart r rule).cond = s.cond ∧ (s.autoStart r rule).lines = s.lines ∧
    (s.autoStart r rule).tx = s.tx ∧ (s.autoStart r rule).sent = s.sent ∧
    (s.autoStart r rule).readBack = s.readBack ∧ (s.autoStart r rule).draws = s.draws ∧
    (s.autoStart r rule).pending = s.pending := by
  unfold State.autoStart
  repeat' (first | split | (dsimp only; split))
  all_goals simp

@[simp] theorem State.waitingRule_frame (s : State) (r : Fin 4) :
    (s.waitingRule r).now = s.now ∧ (s.waitingRule r).epoch = s.epoch ∧
    (s.waitingRule r).straps = s.straps ∧ (s.waitingRule r).station = s.station ∧
    (s.waitingRule r).prop = s.prop ∧ (s.waitingRule r).steer = s.steer ∧ (s.waitingRule r).mach = s.mach ∧
    (s.waitingRule r).towLine = s.towLine ∧ (s.waitingRule r).coup = s.coup ∧
    (s.waitingRule r).fuel = s.fuel ∧ (s.waitingRule r).cond = s.cond ∧ (s.waitingRule r).lines = s.lines ∧
    (s.waitingRule r).tx = s.tx ∧ (s.waitingRule r).sent = s.sent ∧
    (s.waitingRule r).readBack = s.readBack ∧ (s.waitingRule r).draws = s.draws ∧
    (s.waitingRule r).pending = s.pending := by
  unfold State.waitingRule
  repeat' (first | split | (dsimp only; split))
  all_goals simp

@[simp] theorem State.evalWaiting_frame (s : State) :
    (s.evalWaiting).now = s.now ∧ (s.evalWaiting).epoch = s.epoch ∧ (s.evalWaiting).straps = s.straps ∧
    (s.evalWaiting).station = s.station ∧ (s.evalWaiting).prop = s.prop ∧ (s.evalWaiting).steer = s.steer ∧
    (s.evalWaiting).mach = s.mach ∧ (s.evalWaiting).towLine = s.towLine ∧ (s.evalWaiting).coup = s.coup ∧
    (s.evalWaiting).fuel = s.fuel ∧ (s.evalWaiting).cond = s.cond ∧ (s.evalWaiting).lines = s.lines ∧
    (s.evalWaiting).tx = s.tx ∧ (s.evalWaiting).sent = s.sent ∧
    (s.evalWaiting).readBack = s.readBack ∧ (s.evalWaiting).draws = s.draws ∧
    (s.evalWaiting).pending = s.pending := by
  simp [State.evalWaiting, State.foldl_now, State.foldl_epoch, State.foldl_straps, State.foldl_station,
    State.foldl_prop, State.foldl_steer, State.foldl_mach, State.foldl_towLine, State.foldl_coup,
    State.foldl_fuel, State.foldl_cond, State.foldl_lines, State.foldl_tx, State.foldl_sent,
    State.foldl_readBack, State.foldl_draws, State.foldl_pending, apply_ite State.now,
    apply_ite State.epoch, apply_ite State.straps, apply_ite State.station, apply_ite State.prop,
    apply_ite State.steer, apply_ite State.mach, apply_ite State.towLine, apply_ite State.coup,
    apply_ite State.fuel, apply_ite State.cond, apply_ite State.lines, apply_ite State.tx,
    apply_ite State.sent, apply_ite State.readBack, apply_ite State.draws, apply_ite State.pending]

@[simp] theorem State.closeRun_frame (s : State) (cause : EndCause) (incomplete : Bool) :
    (s.closeRun cause incomplete).now = s.now ∧ (s.closeRun cause incomplete).epoch = s.epoch ∧
    (s.closeRun cause incomplete).straps = s.straps ∧ (s.closeRun cause incomplete).station = s.station ∧
    (s.closeRun cause incomplete).prop = s.prop ∧ (s.closeRun cause incomplete).steer = s.steer ∧
    (s.closeRun cause incomplete).mach = s.mach ∧ (s.closeRun cause incomplete).towLine = s.towLine ∧
    (s.closeRun cause incomplete).coup = s.coup ∧ (s.closeRun cause incomplete).fuel = s.fuel ∧
    (s.closeRun cause incomplete).lines = s.lines ∧ (s.closeRun cause incomplete).tx = s.tx ∧
    (s.closeRun cause incomplete).sent = s.sent ∧
    (s.closeRun cause incomplete).readBack = s.readBack ∧
    (s.closeRun cause incomplete).draws = s.draws ∧ (s.closeRun cause incomplete).pending = s.pending := by
  unfold State.closeRun
  repeat' (first | split | (dsimp only; split))
  all_goals simp

@[simp] theorem State.endRun_frame (s : State) (cause : EndCause) (incomplete : Bool) :
    (s.endRun cause incomplete).now = s.now ∧ (s.endRun cause incomplete).epoch = s.epoch ∧
    (s.endRun cause incomplete).straps = s.straps ∧ (s.endRun cause incomplete).station = s.station ∧
    (s.endRun cause incomplete).prop = s.prop ∧ (s.endRun cause incomplete).steer = s.steer ∧
    (s.endRun cause incomplete).mach = s.mach ∧ (s.endRun cause incomplete).towLine = s.towLine ∧
    (s.endRun cause incomplete).coup = s.coup ∧ (s.endRun cause incomplete).fuel = s.fuel ∧
    (s.endRun cause incomplete).lines = s.lines ∧ (s.endRun cause incomplete).tx = s.tx ∧
    (s.endRun cause incomplete).sent = s.sent ∧ (s.endRun cause incomplete).readBack = s.readBack ∧
    (s.endRun cause incomplete).draws = s.draws ∧ (s.endRun cause incomplete).pending = s.pending := by
  simp [State.endRun]

@[simp] theorem State.endTrailer_frame (s : State) (incomplete : Bool) :
    (s.endTrailer incomplete).now = s.now ∧ (s.endTrailer incomplete).epoch = s.epoch ∧
    (s.endTrailer incomplete).straps = s.straps ∧ (s.endTrailer incomplete).station = s.station ∧
    (s.endTrailer incomplete).prop = s.prop ∧ (s.endTrailer incomplete).steer = s.steer ∧
    (s.endTrailer incomplete).mach = s.mach ∧ (s.endTrailer incomplete).towLine = s.towLine ∧
    (s.endTrailer incomplete).coup = s.coup ∧ (s.endTrailer incomplete).fuel = s.fuel ∧
    (s.endTrailer incomplete).lines = s.lines ∧ (s.endTrailer incomplete).tx = s.tx ∧
    (s.endTrailer incomplete).sent = s.sent ∧ (s.endTrailer incomplete).readBack = s.readBack ∧
    (s.endTrailer incomplete).draws = s.draws ∧ (s.endTrailer incomplete).pending = s.pending := by
  unfold State.endTrailer
  repeat' (first | split | (dsimp only; split))
  all_goals simp

@[simp] theorem State.enterTrailer_frame (s : State) (cause : EndCause) :
    (s.enterTrailer cause).now = s.now ∧ (s.enterTrailer cause).epoch = s.epoch ∧
    (s.enterTrailer cause).straps = s.straps ∧ (s.enterTrailer cause).station = s.station ∧
    (s.enterTrailer cause).prop = s.prop ∧ (s.enterTrailer cause).steer = s.steer ∧
    (s.enterTrailer cause).mach = s.mach ∧ (s.enterTrailer cause).towLine = s.towLine ∧
    (s.enterTrailer cause).coup = s.coup ∧ (s.enterTrailer cause).fuel = s.fuel ∧
    (s.enterTrailer cause).cond = s.cond ∧ (s.enterTrailer cause).store = s.store ∧
    (s.enterTrailer cause).lines = s.lines ∧ (s.enterTrailer cause).tx = s.tx ∧
    (s.enterTrailer cause).sent = s.sent ∧ (s.enterTrailer cause).readBack = s.readBack ∧
    (s.enterTrailer cause).draws = s.draws ∧ (s.enterTrailer cause).pending = s.pending := by
  simp [State.enterTrailer]

@[simp] theorem State.bookIncrement_frame (s : State) (inc : Int) :
    (s.bookIncrement inc).now = s.now ∧ (s.bookIncrement inc).epoch = s.epoch ∧
    (s.bookIncrement inc).straps = s.straps ∧ (s.bookIncrement inc).station = s.station ∧
    (s.bookIncrement inc).prop = s.prop ∧ (s.bookIncrement inc).steer = s.steer ∧
    (s.bookIncrement inc).mach = s.mach ∧ (s.bookIncrement inc).towLine = s.towLine ∧
    (s.bookIncrement inc).coup = s.coup ∧ (s.bookIncrement inc).cond = s.cond ∧
    (s.bookIncrement inc).store = s.store ∧ (s.bookIncrement inc).lines = s.lines ∧
    (s.bookIncrement inc).tx = s.tx ∧ (s.bookIncrement inc).sent = s.sent ∧
    (s.bookIncrement inc).readBack = s.readBack ∧ (s.bookIncrement inc).draws = s.draws ∧
    (s.bookIncrement inc).pending = s.pending := by
  unfold State.bookIncrement
  repeat' (first | split | (dsimp only; split))
  all_goals simp

@[simp] theorem State.pumpMeter_frame (s : State) (p : PumpReport) :
    ((s.pumpMeter p).2).now = s.now ∧ ((s.pumpMeter p).2).epoch = s.epoch ∧
    ((s.pumpMeter p).2).straps = s.straps ∧ ((s.pumpMeter p).2).station = s.station ∧
    ((s.pumpMeter p).2).prop = s.prop ∧ ((s.pumpMeter p).2).steer = s.steer ∧
    ((s.pumpMeter p).2).mach = s.mach ∧ ((s.pumpMeter p).2).towLine = s.towLine ∧
    ((s.pumpMeter p).2).coup = s.coup ∧ ((s.pumpMeter p).2).cond = s.cond ∧
    ((s.pumpMeter p).2).store = s.store ∧ ((s.pumpMeter p).2).lines = s.lines ∧
    ((s.pumpMeter p).2).tx = s.tx ∧ ((s.pumpMeter p).2).sent = s.sent ∧
    ((s.pumpMeter p).2).readBack = s.readBack ∧ ((s.pumpMeter p).2).draws = s.draws ∧
    ((s.pumpMeter p).2).pending = s.pending := by
  unfold State.pumpMeter
  repeat' (first | split | (dsimp only; split))
  all_goals simp

@[simp] theorem State.startingReport_frame (s : State) (found : MeterFinding) (p : PumpReport) :
    (s.startingReport found p).now = s.now ∧ (s.startingReport found p).epoch = s.epoch ∧
    (s.startingReport found p).straps = s.straps ∧ (s.startingReport found p).station = s.station ∧
    (s.startingReport found p).prop = s.prop ∧ (s.startingReport found p).steer = s.steer ∧
    (s.startingReport found p).mach = s.mach ∧ (s.startingReport found p).towLine = s.towLine ∧
    (s.startingReport found p).coup = s.coup ∧ (s.startingReport found p).fuel = s.fuel ∧
    (s.startingReport found p).lines = s.lines ∧ (s.startingReport found p).tx = s.tx ∧
    (s.startingReport found p).sent = s.sent ∧ (s.startingReport found p).readBack = s.readBack ∧
    (s.startingReport found p).draws = s.draws ∧ (s.startingReport found p).pending = s.pending := by
  unfold State.startingReport
  repeat' (first | split | (dsimp only; split))
  all_goals simp

@[simp] theorem State.runningReport_frame (s : State) (found : MeterFinding) (p : PumpReport) :
    (s.runningReport found p).now = s.now ∧ (s.runningReport found p).epoch = s.epoch ∧
    (s.runningReport found p).straps = s.straps ∧ (s.runningReport found p).station = s.station ∧
    (s.runningReport found p).prop = s.prop ∧ (s.runningReport found p).steer = s.steer ∧
    (s.runningReport found p).mach = s.mach ∧ (s.runningReport found p).towLine = s.towLine ∧
    (s.runningReport found p).coup = s.coup ∧ (s.runningReport found p).fuel = s.fuel ∧
    (s.runningReport found p).lines = s.lines ∧ (s.runningReport found p).tx = s.tx ∧
    (s.runningReport found p).sent = s.sent ∧ (s.runningReport found p).readBack = s.readBack ∧
    (s.runningReport found p).draws = s.draws ∧ (s.runningReport found p).pending = s.pending := by
  unfold State.runningReport
  repeat' (first | split | (dsimp only; split))
  all_goals simp

@[simp] theorem State.trailerReport_frame (s : State) (found : MeterFinding) :
    (s.trailerReport found).now = s.now ∧ (s.trailerReport found).epoch = s.epoch ∧
    (s.trailerReport found).straps = s.straps ∧ (s.trailerReport found).station = s.station ∧
    (s.trailerReport found).prop = s.prop ∧ (s.trailerReport found).steer = s.steer ∧
    (s.trailerReport found).mach = s.mach ∧ (s.trailerReport found).towLine = s.towLine ∧
    (s.trailerReport found).coup = s.coup ∧ (s.trailerReport found).fuel = s.fuel ∧
    (s.trailerReport found).lines = s.lines ∧ (s.trailerReport found).tx = s.tx ∧
    (s.trailerReport found).sent = s.sent ∧ (s.trailerReport found).readBack = s.readBack ∧
    (s.trailerReport found).draws = s.draws ∧ (s.trailerReport found).pending = s.pending := by
  unfold State.trailerReport
  repeat' (first | split | (dsimp only; split))
  all_goals simp

@[simp] theorem State.pumpReport_frame (s : State) (p : PumpReport) :
    (s.pumpReport p).now = s.now ∧ (s.pumpReport p).epoch = s.epoch ∧ (s.pumpReport p).straps = s.straps ∧
    (s.pumpReport p).station = s.station ∧ (s.pumpReport p).prop = s.prop ∧
    (s.pumpReport p).steer = s.steer ∧ (s.pumpReport p).mach = s.mach ∧
    (s.pumpReport p).towLine = s.towLine ∧ (s.pumpReport p).coup = s.coup ∧
    (s.pumpReport p).lines = s.lines ∧ (s.pumpReport p).tx = s.tx ∧ (s.pumpReport p).sent = s.sent ∧
    (s.pumpReport p).readBack = s.readBack ∧ (s.pumpReport p).draws = s.draws ∧
    (s.pumpReport p).pending = s.pending := by
  unfold State.pumpReport
  repeat' (first | split | (dsimp only; split))
  all_goals simp

@[simp] theorem State.pumpMiss_frame (s : State) :
    (s.pumpMiss).now = s.now ∧ (s.pumpMiss).epoch = s.epoch ∧ (s.pumpMiss).straps = s.straps ∧
    (s.pumpMiss).station = s.station ∧ (s.pumpMiss).prop = s.prop ∧ (s.pumpMiss).steer = s.steer ∧
    (s.pumpMiss).mach = s.mach ∧ (s.pumpMiss).towLine = s.towLine ∧ (s.pumpMiss).coup = s.coup ∧
    (s.pumpMiss).fuel = s.fuel ∧ (s.pumpMiss).cond = s.cond ∧ (s.pumpMiss).store = s.store ∧
    (s.pumpMiss).lines = s.lines ∧ (s.pumpMiss).tx = s.tx ∧ (s.pumpMiss).sent = s.sent ∧
    (s.pumpMiss).readBack = s.readBack ∧ (s.pumpMiss).draws = s.draws ∧
    (s.pumpMiss).pending = s.pending := by
  unfold State.pumpMiss
  repeat' (first | split | (dsimp only; split))
  all_goals simp

@[simp] theorem State.pumpLost_frame (s : State) :
    (s.pumpLost).now = s.now ∧ (s.pumpLost).epoch = s.epoch ∧ (s.pumpLost).straps = s.straps ∧
    (s.pumpLost).station = s.station ∧ (s.pumpLost).prop = s.prop ∧ (s.pumpLost).steer = s.steer ∧
    (s.pumpLost).mach = s.mach ∧ (s.pumpLost).towLine = s.towLine ∧ (s.pumpLost).coup = s.coup ∧
    (s.pumpLost).fuel = s.fuel ∧ (s.pumpLost).lines = s.lines ∧ (s.pumpLost).tx = s.tx ∧
    (s.pumpLost).sent = s.sent ∧ (s.pumpLost).readBack = s.readBack ∧ (s.pumpLost).draws = s.draws ∧
    (s.pumpLost).pending = s.pending := by
  unfold State.pumpLost
  repeat' (first | split | (dsimp only; split))
  all_goals simp

@[simp] theorem State.fireRule_frame (s : State) (r : Fin 4) (rule : RefillRule) :
    (s.fireRule r rule).now = s.now ∧ (s.fireRule r rule).epoch = s.epoch ∧
    (s.fireRule r rule).straps = s.straps ∧ (s.fireRule r rule).station = s.station ∧
    (s.fireRule r rule).prop = s.prop ∧ (s.fireRule r rule).steer = s.steer ∧
    (s.fireRule r rule).mach = s.mach ∧ (s.fireRule r rule).towLine = s.towLine ∧
    (s.fireRule r rule).coup = s.coup ∧ (s.fireRule r rule).fuel = s.fuel ∧
    (s.fireRule r rule).cond = s.cond ∧ (s.fireRule r rule).lines = s.lines ∧
    (s.fireRule r rule).tx = s.tx ∧ (s.fireRule r rule).sent = s.sent ∧
    (s.fireRule r rule).readBack = s.readBack ∧ (s.fireRule r rule).draws = s.draws ∧
    (s.fireRule r rule).pending = s.pending := by
  unfold State.fireRule
  repeat' (first | split | (dsimp only; split))
  all_goals simp

@[simp] theorem State.examineRule_frame (s : State) (index : Nat) (e : TankEntry) (level : Nat) (r : Fin 4) :
    (s.examineRule index e level r).now = s.now ∧ (s.examineRule index e level r).epoch = s.epoch ∧
    (s.examineRule index e level r).straps = s.straps ∧
    (s.examineRule index e level r).station = s.station ∧ (s.examineRule index e level r).prop = s.prop ∧
    (s.examineRule index e level r).steer = s.steer ∧ (s.examineRule index e level r).mach = s.mach ∧
    (s.examineRule index e level r).towLine = s.towLine ∧ (s.examineRule index e level r).coup = s.coup ∧
    (s.examineRule index e level r).fuel = s.fuel ∧ (s.examineRule index e level r).cond = s.cond ∧
    (s.examineRule index e level r).lines = s.lines ∧ (s.examineRule index e level r).tx = s.tx ∧
    (s.examineRule index e level r).sent = s.sent ∧
    (s.examineRule index e level r).readBack = s.readBack ∧
    (s.examineRule index e level r).draws = s.draws ∧ (s.examineRule index e level r).pending = s.pending := by
  unfold State.examineRule
  repeat' (first | split | (dsimp only; split))
  all_goals simp

@[simp] theorem State.publishReading_frame (s : State) (i : Fin 12) (e : TankEntry) :
    (s.publishReading i e).now = s.now ∧ (s.publishReading i e).epoch = s.epoch ∧
    (s.publishReading i e).straps = s.straps ∧ (s.publishReading i e).station = s.station ∧
    (s.publishReading i e).prop = s.prop ∧ (s.publishReading i e).steer = s.steer ∧
    (s.publishReading i e).mach = s.mach ∧ (s.publishReading i e).towLine = s.towLine ∧
    (s.publishReading i e).coup = s.coup ∧ (s.publishReading i e).fuel = s.fuel ∧
    (s.publishReading i e).cond = s.cond ∧ (s.publishReading i e).lines = s.lines ∧
    (s.publishReading i e).tx = s.tx ∧ (s.publishReading i e).sent = s.sent ∧
    (s.publishReading i e).readBack = s.readBack ∧ (s.publishReading i e).draws = s.draws ∧
    (s.publishReading i e).pending = s.pending := by
  unfold State.publishReading
  split <;> simp [State.foldl_now, State.foldl_epoch, State.foldl_straps, State.foldl_station,
    State.foldl_prop, State.foldl_steer, State.foldl_mach, State.foldl_towLine, State.foldl_coup,
    State.foldl_fuel, State.foldl_cond, State.foldl_lines, State.foldl_tx, State.foldl_sent,
    State.foldl_readBack, State.foldl_draws, State.foldl_pending]

@[simp] theorem State.gaugeReport_frame (s : State) (address : Nat) (b : Bytes) :
    (s.gaugeReport address b).now = s.now ∧ (s.gaugeReport address b).epoch = s.epoch ∧
    (s.gaugeReport address b).straps = s.straps ∧ (s.gaugeReport address b).station = s.station ∧
    (s.gaugeReport address b).prop = s.prop ∧ (s.gaugeReport address b).steer = s.steer ∧
    (s.gaugeReport address b).mach = s.mach ∧ (s.gaugeReport address b).towLine = s.towLine ∧
    (s.gaugeReport address b).coup = s.coup ∧ (s.gaugeReport address b).lines = s.lines ∧
    (s.gaugeReport address b).tx = s.tx ∧ (s.gaugeReport address b).sent = s.sent ∧
    (s.gaugeReport address b).readBack = s.readBack ∧ (s.gaugeReport address b).draws = s.draws ∧
    (s.gaugeReport address b).pending = s.pending := by
  unfold State.gaugeReport
  refine ⟨State.onTanksOf_keeps State.now _ (fun t i e => ?_) s _,
    State.onTanksOf_keeps State.epoch _ (fun t i e => ?_) s _,
    State.onTanksOf_keeps State.straps _ (fun t i e => ?_) s _,
    State.onTanksOf_keeps State.station _ (fun t i e => ?_) s _,
    State.onTanksOf_keeps State.prop _ (fun t i e => ?_) s _,
    State.onTanksOf_keeps State.steer _ (fun t i e => ?_) s _,
    State.onTanksOf_keeps State.mach _ (fun t i e => ?_) s _,
    State.onTanksOf_keeps State.towLine _ (fun t i e => ?_) s _,
    State.onTanksOf_keeps State.coup _ (fun t i e => ?_) s _,
    State.onTanksOf_keeps State.lines _ (fun t i e => ?_) s _,
    State.onTanksOf_keeps State.tx _ (fun t i e => ?_) s _,
    State.onTanksOf_keeps State.sent _ (fun t i e => ?_) s _,
    State.onTanksOf_keeps State.readBack _ (fun t i e => ?_) s _,
    State.onTanksOf_keeps State.draws _ (fun t i e => ?_) s _,
    State.onTanksOf_keeps State.pending _ (fun t i e => ?_) s _⟩ <;>
    first | (simp; done) | (split <;> simp)

@[simp] theorem State.startTransfer_frame (s : State) (source dest target : Nat) :
    (s.startTransfer source dest target).now = s.now ∧
    (s.startTransfer source dest target).epoch = s.epoch ∧
    (s.startTransfer source dest target).straps = s.straps ∧
    (s.startTransfer source dest target).station = s.station ∧
    (s.startTransfer source dest target).prop = s.prop ∧
    (s.startTransfer source dest target).steer = s.steer ∧
    (s.startTransfer source dest target).mach = s.mach ∧
    (s.startTransfer source dest target).towLine = s.towLine ∧
    (s.startTransfer source dest target).coup = s.coup ∧
    (s.startTransfer source dest target).fuel = s.fuel ∧
    (s.startTransfer source dest target).lines = s.lines ∧
    (s.startTransfer source dest target).sent = s.sent ∧
    (s.startTransfer source dest target).readBack = s.readBack ∧
    (s.startTransfer source dest target).draws = s.draws ∧
    (s.startTransfer source dest target).pending = s.pending := by
  unfold State.startTransfer
  repeat' (first | split | (dsimp only; split))
  all_goals simp

@[simp] theorem State.abortTransfer_frame (s : State) :
    (s.abortTransfer).now = s.now ∧ (s.abortTransfer).epoch = s.epoch ∧
    (s.abortTransfer).straps = s.straps ∧ (s.abortTransfer).station = s.station ∧
    (s.abortTransfer).prop = s.prop ∧ (s.abortTransfer).steer = s.steer ∧ (s.abortTransfer).mach = s.mach ∧
    (s.abortTransfer).towLine = s.towLine ∧ (s.abortTransfer).coup = s.coup ∧
    (s.abortTransfer).fuel = s.fuel ∧ (s.abortTransfer).cond = s.cond ∧ (s.abortTransfer).lines = s.lines ∧
    (s.abortTransfer).sent = s.sent ∧ (s.abortTransfer).readBack = s.readBack ∧
    (s.abortTransfer).draws = s.draws ∧ (s.abortTransfer).pending = s.pending := by
  unfold State.abortTransfer
  repeat' (first | split | (dsimp only; split))
  all_goals simp

@[simp] theorem State.applyTransferTable_frame (s : State) :
    (s.applyTransferTable).now = s.now ∧ (s.applyTransferTable).epoch = s.epoch ∧
    (s.applyTransferTable).straps = s.straps ∧ (s.applyTransferTable).station = s.station ∧
    (s.applyTransferTable).prop = s.prop ∧ (s.applyTransferTable).steer = s.steer ∧
    (s.applyTransferTable).mach = s.mach ∧ (s.applyTransferTable).towLine = s.towLine ∧
    (s.applyTransferTable).coup = s.coup ∧ (s.applyTransferTable).fuel = s.fuel ∧
    (s.applyTransferTable).cond = s.cond ∧ (s.applyTransferTable).store = s.store ∧
    (s.applyTransferTable).lines = s.lines ∧ (s.applyTransferTable).tx = s.tx ∧
    (s.applyTransferTable).sent = s.sent ∧ (s.applyTransferTable).readBack = s.readBack ∧
    (s.applyTransferTable).draws = s.draws ∧ (s.applyTransferTable).pending = s.pending := by
  simp [State.applyTransferTable]

@[simp] theorem State.restartTransfer_frame (s : State) :
    (s.restartTransfer).now = s.now ∧ (s.restartTransfer).epoch = s.epoch ∧
    (s.restartTransfer).straps = s.straps ∧ (s.restartTransfer).station = s.station ∧
    (s.restartTransfer).prop = s.prop ∧ (s.restartTransfer).steer = s.steer ∧
    (s.restartTransfer).mach = s.mach ∧ (s.restartTransfer).towLine = s.towLine ∧
    (s.restartTransfer).coup = s.coup ∧ (s.restartTransfer).fuel = s.fuel ∧
    (s.restartTransfer).lines = s.lines ∧ (s.restartTransfer).tx = s.tx ∧
    (s.restartTransfer).sent = s.sent ∧ (s.restartTransfer).readBack = s.readBack ∧
    (s.restartTransfer).draws = s.draws ∧ (s.restartTransfer).pending = s.pending := by
  unfold State.restartTransfer
  repeat' (first | split | (dsimp only; split))
  all_goals simp

@[simp] theorem State.restoreTransfer_frame (s : State) (damaged : List Nat) (counterDamaged : Bool) :
    (s.restoreTransfer damaged counterDamaged).now = s.now ∧
    (s.restoreTransfer damaged counterDamaged).epoch = s.epoch ∧
    (s.restoreTransfer damaged counterDamaged).straps = s.straps ∧
    (s.restoreTransfer damaged counterDamaged).station = s.station ∧
    (s.restoreTransfer damaged counterDamaged).prop = s.prop ∧
    (s.restoreTransfer damaged counterDamaged).steer = s.steer ∧
    (s.restoreTransfer damaged counterDamaged).mach = s.mach ∧
    (s.restoreTransfer damaged counterDamaged).towLine = s.towLine ∧
    (s.restoreTransfer damaged counterDamaged).coup = s.coup ∧
    (s.restoreTransfer damaged counterDamaged).fuel = s.fuel ∧
    (s.restoreTransfer damaged counterDamaged).cond = s.cond ∧
    (s.restoreTransfer damaged counterDamaged).store = s.store ∧
    (s.restoreTransfer damaged counterDamaged).lines = s.lines ∧
    (s.restoreTransfer damaged counterDamaged).tx = s.tx ∧
    (s.restoreTransfer damaged counterDamaged).sent = s.sent ∧
    (s.restoreTransfer damaged counterDamaged).readBack = s.readBack ∧
    (s.restoreTransfer damaged counterDamaged).draws = s.draws ∧
    (s.restoreTransfer damaged counterDamaged).pending = s.pending := by
  simp [State.restoreTransfer]

/-! ## Operations of Machine/Scheduler.lean -/

@[simp] theorem State.handReport_frame (s : State) (address content : Nat) (b : Bytes) :
    (s.handReport address content b).now = s.now ∧ (s.handReport address content b).epoch = s.epoch ∧
    (s.handReport address content b).straps = s.straps ∧
    (s.handReport address content b).station = s.station ∧ (s.handReport address content b).mach = s.mach ∧
    (s.handReport address content b).towLine = s.towLine ∧ (s.handReport address content b).coup = s.coup ∧
    (s.handReport address content b).lines = s.lines ∧ (s.handReport address content b).tx = s.tx ∧
    (s.handReport address content b).sent = s.sent ∧
    (s.handReport address content b).readBack = s.readBack ∧
    (s.handReport address content b).draws = s.draws ∧ (s.handReport address content b).pending = s.pending := by
  unfold State.handReport
  repeat' (first | split | (dsimp only; split))
  all_goals simp

@[simp] theorem State.handMiss_frame (s : State) (address content : Nat) :
    (s.handMiss address content).now = s.now ∧ (s.handMiss address content).epoch = s.epoch ∧
    (s.handMiss address content).straps = s.straps ∧ (s.handMiss address content).station = s.station ∧
    (s.handMiss address content).steer = s.steer ∧ (s.handMiss address content).mach = s.mach ∧
    (s.handMiss address content).towLine = s.towLine ∧ (s.handMiss address content).coup = s.coup ∧
    (s.handMiss address content).cond = s.cond ∧ (s.handMiss address content).store = s.store ∧
    (s.handMiss address content).lines = s.lines ∧ (s.handMiss address content).tx = s.tx ∧
    (s.handMiss address content).sent = s.sent ∧ (s.handMiss address content).readBack = s.readBack ∧
    (s.handMiss address content).draws = s.draws ∧ (s.handMiss address content).pending = s.pending := by
  unfold State.handMiss
  repeat' (first | split | (dsimp only; split))
  all_goals simp

@[simp] theorem State.handNode_frame (s : State) (address content : Nat) (lost : Bool) :
    (s.handNode address content lost).now = s.now ∧ (s.handNode address content lost).epoch = s.epoch ∧
    (s.handNode address content lost).straps = s.straps ∧
    (s.handNode address content lost).station = s.station ∧
    (s.handNode address content lost).mach = s.mach ∧
    (s.handNode address content lost).towLine = s.towLine ∧
    (s.handNode address content lost).coup = s.coup ∧ (s.handNode address content lost).lines = s.lines ∧
    (s.handNode address content lost).tx = s.tx ∧ (s.handNode address content lost).sent = s.sent ∧
    (s.handNode address content lost).readBack = s.readBack ∧
    (s.handNode address content lost).draws = s.draws ∧
    (s.handNode address content lost).pending = s.pending := by
  unfold State.handNode
  repeat' (first | split | (dsimp only; split))
  all_goals simp

@[simp] theorem State.evalMachLost_frame (s : State) :
    (s.evalMachLost).now = s.now ∧ (s.evalMachLost).epoch = s.epoch ∧ (s.evalMachLost).straps = s.straps ∧
    (s.evalMachLost).station = s.station ∧ (s.evalMachLost).prop = s.prop ∧
    (s.evalMachLost).steer = s.steer ∧ (s.evalMachLost).mach = s.mach ∧
    (s.evalMachLost).towLine = s.towLine ∧ (s.evalMachLost).coup = s.coup ∧
    (s.evalMachLost).fuel = s.fuel ∧ (s.evalMachLost).transfer = s.transfer ∧
    (s.evalMachLost).store = s.store ∧ (s.evalMachLost).lines = s.lines ∧ (s.evalMachLost).tx = s.tx ∧
    (s.evalMachLost).sent = s.sent ∧ (s.evalMachLost).readBack = s.readBack ∧
    (s.evalMachLost).draws = s.draws ∧ (s.evalMachLost).pending = s.pending := by
  simp [State.evalMachLost]

@[simp] theorem State.countNode_frame (s : State) (address content : Nat) (f : MachNode → MachNode) :
    (s.countNode address content f).now = s.now ∧ (s.countNode address content f).epoch = s.epoch ∧
    (s.countNode address content f).straps = s.straps ∧
    (s.countNode address content f).station = s.station ∧
    (s.countNode address content f).towLine = s.towLine ∧ (s.countNode address content f).coup = s.coup ∧
    (s.countNode address content f).lines = s.lines ∧ (s.countNode address content f).tx = s.tx ∧
    (s.countNode address content f).sent = s.sent ∧
    (s.countNode address content f).readBack = s.readBack ∧
    (s.countNode address content f).draws = s.draws ∧ (s.countNode address content f).pending = s.pending := by
  unfold State.countNode
  repeat' (first | split | (dsimp only; split))
  all_goals simp

@[simp] theorem State.nodeReport_frame (s : State) (address content : Nat) (b : Bytes) :
    (s.nodeReport address content b).now = s.now ∧ (s.nodeReport address content b).epoch = s.epoch ∧
    (s.nodeReport address content b).straps = s.straps ∧
    (s.nodeReport address content b).station = s.station ∧
    (s.nodeReport address content b).towLine = s.towLine ∧ (s.nodeReport address content b).coup = s.coup ∧
    (s.nodeReport address content b).lines = s.lines ∧ (s.nodeReport address content b).tx = s.tx ∧
    (s.nodeReport address content b).sent = s.sent ∧
    (s.nodeReport address content b).readBack = s.readBack ∧
    (s.nodeReport address content b).draws = s.draws ∧ (s.nodeReport address content b).pending = s.pending := by
  simp [State.nodeReport]

@[simp] theorem State.nodeMiss_frame (s : State) (address content : Nat) :
    (s.nodeMiss address content).now = s.now ∧ (s.nodeMiss address content).epoch = s.epoch ∧
    (s.nodeMiss address content).straps = s.straps ∧ (s.nodeMiss address content).station = s.station ∧
    (s.nodeMiss address content).towLine = s.towLine ∧ (s.nodeMiss address content).coup = s.coup ∧
    (s.nodeMiss address content).lines = s.lines ∧ (s.nodeMiss address content).tx = s.tx ∧
    (s.nodeMiss address content).sent = s.sent ∧ (s.nodeMiss address content).readBack = s.readBack ∧
    (s.nodeMiss address content).draws = s.draws ∧ (s.nodeMiss address content).pending = s.pending := by
  simp [State.nodeMiss]

@[simp] theorem State.fireEngine_frame (s : State) (e : SlotEntry) (interval : Nat) (n : Fin 4) (t : EngineEntry) :
    (s.fireEngine e interval n t).now = s.now ∧ (s.fireEngine e interval n t).epoch = s.epoch ∧
    (s.fireEngine e interval n t).straps = s.straps ∧ (s.fireEngine e interval n t).station = s.station ∧
    (s.fireEngine e interval n t).steer = s.steer ∧ (s.fireEngine e interval n t).mach = s.mach ∧
    (s.fireEngine e interval n t).towLine = s.towLine ∧ (s.fireEngine e interval n t).coup = s.coup ∧
    (s.fireEngine e interval n t).fuel = s.fuel ∧ (s.fireEngine e interval n t).transfer = s.transfer ∧
    (s.fireEngine e interval n t).store = s.store ∧ (s.fireEngine e interval n t).lines = s.lines ∧
    (s.fireEngine e interval n t).tx = s.tx ∧ (s.fireEngine e interval n t).readBack = s.readBack ∧
    (s.fireEngine e interval n t).draws = s.draws ∧ (s.fireEngine e interval n t).pending = s.pending := by
  unfold State.fireEngine
  repeat' (first | split | (dsimp only; split))
  all_goals simp

@[simp] theorem State.fireActuator_frame (s : State) (e : SlotEntry) (interval : Nat) (i : Fin 7) (a : SteerEntry) :
    (s.fireActuator e interval i a).now = s.now ∧ (s.fireActuator e interval i a).epoch = s.epoch ∧
    (s.fireActuator e interval i a).straps = s.straps ∧
    (s.fireActuator e interval i a).station = s.station ∧ (s.fireActuator e interval i a).prop = s.prop ∧
    (s.fireActuator e interval i a).mach = s.mach ∧ (s.fireActuator e interval i a).towLine = s.towLine ∧
    (s.fireActuator e interval i a).coup = s.coup ∧ (s.fireActuator e interval i a).fuel = s.fuel ∧
    (s.fireActuator e interval i a).transfer = s.transfer ∧ (s.fireActuator e interval i a).cond = s.cond ∧
    (s.fireActuator e interval i a).store = s.store ∧ (s.fireActuator e interval i a).lines = s.lines ∧
    (s.fireActuator e interval i a).tx = s.tx ∧
    (s.fireActuator e interval i a).readBack = s.readBack ∧
    (s.fireActuator e interval i a).draws = s.draws ∧ (s.fireActuator e interval i a).pending = s.pending := by
  unfold State.fireActuator
  repeat' (first | split | (dsimp only; split))
  all_goals simp

@[simp] theorem State.firePump_frame (s : State) (e : SlotEntry) :
    (s.firePump e).now = s.now ∧ (s.firePump e).epoch = s.epoch ∧ (s.firePump e).straps = s.straps ∧
    (s.firePump e).station = s.station ∧ (s.firePump e).prop = s.prop ∧ (s.firePump e).steer = s.steer ∧
    (s.firePump e).mach = s.mach ∧ (s.firePump e).towLine = s.towLine ∧ (s.firePump e).coup = s.coup ∧
    (s.firePump e).fuel = s.fuel ∧ (s.firePump e).transfer = s.transfer ∧ (s.firePump e).cond = s.cond ∧
    (s.firePump e).store = s.store ∧ (s.firePump e).lines = s.lines ∧ (s.firePump e).tx = s.tx ∧
    (s.firePump e).readBack = s.readBack ∧ (s.firePump e).draws = s.draws ∧
    (s.firePump e).pending = s.pending := by
  unfold State.firePump
  repeat' (first | split | (dsimp only; split))
  all_goals simp

@[simp] theorem State.fireFrame_frame (s : State) (e : SlotEntry) (interval : Nat) :
    (s.fireFrame e interval).now = s.now ∧ (s.fireFrame e interval).epoch = s.epoch ∧
    (s.fireFrame e interval).straps = s.straps ∧ (s.fireFrame e interval).station = s.station ∧
    (s.fireFrame e interval).mach = s.mach ∧ (s.fireFrame e interval).towLine = s.towLine ∧
    (s.fireFrame e interval).coup = s.coup ∧ (s.fireFrame e interval).fuel = s.fuel ∧
    (s.fireFrame e interval).transfer = s.transfer ∧ (s.fireFrame e interval).store = s.store ∧
    (s.fireFrame e interval).lines = s.lines ∧ (s.fireFrame e interval).tx = s.tx ∧
    (s.fireFrame e interval).readBack = s.readBack ∧ (s.fireFrame e interval).draws = s.draws ∧
    (s.fireFrame e interval).pending = s.pending := by
  unfold State.fireFrame
  repeat' (first | split | (dsimp only; split))
  all_goals simp

@[simp] theorem State.openWindow_frame (s : State) (e : SlotEntry) :
    (s.openWindow e).now = s.now ∧ (s.openWindow e).epoch = s.epoch ∧ (s.openWindow e).straps = s.straps ∧
    (s.openWindow e).station = s.station ∧ (s.openWindow e).prop = s.prop ∧
    (s.openWindow e).steer = s.steer ∧ (s.openWindow e).towLine = s.towLine ∧
    (s.openWindow e).coup = s.coup ∧ (s.openWindow e).fuel = s.fuel ∧
    (s.openWindow e).transfer = s.transfer ∧ (s.openWindow e).cond = s.cond ∧
    (s.openWindow e).store = s.store ∧ (s.openWindow e).lines = s.lines ∧ (s.openWindow e).tx = s.tx ∧
    (s.openWindow e).sent = s.sent ∧ (s.openWindow e).readBack = s.readBack ∧
    (s.openWindow e).draws = s.draws ∧ (s.openWindow e).pending = s.pending := by
  simp [State.openWindow]

@[simp] theorem State.fireFrom_frame (s : State) (image : Bytes) (l : List Nat) :
    (s.fireFrom image l).now = s.now ∧ (s.fireFrom image l).epoch = s.epoch ∧
    (s.fireFrom image l).straps = s.straps ∧ (s.fireFrom image l).station = s.station ∧
    (s.fireFrom image l).towLine = s.towLine ∧ (s.fireFrom image l).coup = s.coup ∧
    (s.fireFrom image l).fuel = s.fuel ∧ (s.fireFrom image l).transfer = s.transfer ∧
    (s.fireFrom image l).store = s.store ∧ (s.fireFrom image l).lines = s.lines ∧
    (s.fireFrom image l).tx = s.tx ∧ (s.fireFrom image l).readBack = s.readBack ∧
    (s.fireFrom image l).draws = s.draws ∧ (s.fireFrom image l).pending = s.pending := by
  induction l with
  | nil => simp [State.fireFrom]
  | cons i r ih =>
    unfold State.fireFrom
    dsimp only
    split
    · simp
    · exact ih

@[simp] theorem State.fireNext_frame (s : State) :
    (s.fireNext).now = s.now ∧ (s.fireNext).epoch = s.epoch ∧ (s.fireNext).straps = s.straps ∧
    (s.fireNext).station = s.station ∧ (s.fireNext).towLine = s.towLine ∧ (s.fireNext).coup = s.coup ∧
    (s.fireNext).fuel = s.fuel ∧ (s.fireNext).transfer = s.transfer ∧ (s.fireNext).store = s.store ∧
    (s.fireNext).lines = s.lines ∧ (s.fireNext).tx = s.tx ∧ (s.fireNext).readBack = s.readBack ∧
    (s.fireNext).draws = s.draws ∧ (s.fireNext).pending = s.pending := by
  unfold State.fireNext
  repeat' (first | split | (dsimp only; split))
  all_goals simp

@[simp] theorem State.sendMark_frame (s : State) :
    (s.sendMark).now = s.now ∧ (s.sendMark).epoch = s.epoch ∧ (s.sendMark).straps = s.straps ∧
    (s.sendMark).station = s.station ∧ (s.sendMark).prop = s.prop ∧ (s.sendMark).steer = s.steer ∧
    (s.sendMark).mach = s.mach ∧ (s.sendMark).towLine = s.towLine ∧ (s.sendMark).coup = s.coup ∧
    (s.sendMark).fuel = s.fuel ∧ (s.sendMark).transfer = s.transfer ∧ (s.sendMark).cond = s.cond ∧
    (s.sendMark).store = s.store ∧ (s.sendMark).lines = s.lines ∧ (s.sendMark).tx = s.tx ∧
    (s.sendMark).readBack = s.readBack ∧ (s.sendMark).draws = s.draws ∧
    (s.sendMark).pending = s.pending := by
  unfold State.sendMark
  repeat' (first | split | (dsimp only; split))
  all_goals simp

@[simp] theorem State.fireAfterMark_frame (s : State) :
    (s.fireAfterMark).epoch = s.epoch ∧ (s.fireAfterMark).straps = s.straps ∧
    (s.fireAfterMark).station = s.station ∧ (s.fireAfterMark).towLine = s.towLine ∧
    (s.fireAfterMark).coup = s.coup ∧ (s.fireAfterMark).fuel = s.fuel ∧
    (s.fireAfterMark).transfer = s.transfer ∧ (s.fireAfterMark).store = s.store ∧
    (s.fireAfterMark).lines = s.lines ∧ (s.fireAfterMark).tx = s.tx ∧
    (s.fireAfterMark).readBack = s.readBack ∧ (s.fireAfterMark).draws = s.draws ∧
    (s.fireAfterMark).pending = s.pending := by
  simp [State.fireAfterMark]

@[simp] theorem State.beginCycle_frame (s : State) (image : Bytes) (count : Nat) :
    (s.beginCycle image count).epoch = s.epoch ∧ (s.beginCycle image count).straps = s.straps ∧
    (s.beginCycle image count).station = s.station ∧ (s.beginCycle image count).towLine = s.towLine ∧
    (s.beginCycle image count).coup = s.coup ∧ (s.beginCycle image count).fuel = s.fuel ∧
    (s.beginCycle image count).transfer = s.transfer ∧ (s.beginCycle image count).store = s.store ∧
    (s.beginCycle image count).lines = s.lines ∧ (s.beginCycle image count).tx = s.tx ∧
    (s.beginCycle image count).readBack = s.readBack ∧ (s.beginCycle image count).draws = s.draws ∧
    (s.beginCycle image count).pending = s.pending := by
  simp [State.beginCycle]

@[simp] theorem State.startMachinery_frame (s : State) :
    (s.startMachinery).epoch = s.epoch ∧ (s.startMachinery).straps = s.straps ∧
    (s.startMachinery).station = s.station ∧ (s.startMachinery).towLine = s.towLine ∧
    (s.startMachinery).coup = s.coup ∧ (s.startMachinery).fuel = s.fuel ∧
    (s.startMachinery).transfer = s.transfer ∧ (s.startMachinery).store = s.store ∧
    (s.startMachinery).lines = s.lines ∧ (s.startMachinery).tx = s.tx ∧
    (s.startMachinery).readBack = s.readBack ∧ (s.startMachinery).draws = s.draws ∧
    (s.startMachinery).pending = s.pending := by
  unfold State.startMachinery
  repeat' (first | split | (dsimp only; split))
  all_goals simp

@[simp] theorem State.renameNode_frame (s : State) (i : Fin 30) (old new : Option Nat) :
    (s.renameNode i old new).now = s.now ∧ (s.renameNode i old new).epoch = s.epoch ∧
    (s.renameNode i old new).straps = s.straps ∧ (s.renameNode i old new).station = s.station ∧
    (s.renameNode i old new).towLine = s.towLine ∧ (s.renameNode i old new).coup = s.coup ∧
    (s.renameNode i old new).lines = s.lines ∧ (s.renameNode i old new).tx = s.tx ∧
    (s.renameNode i old new).sent = s.sent ∧ (s.renameNode i old new).readBack = s.readBack ∧
    (s.renameNode i old new).draws = s.draws ∧ (s.renameNode i old new).pending = s.pending := by
  unfold State.renameNode
  repeat' (first | split | (dsimp only; split))
  all_goals simp

@[simp] theorem State.renameNodes_frame (s old : State) :
    (s.renameNodes old).now = s.now ∧ (s.renameNodes old).epoch = s.epoch ∧
    (s.renameNodes old).straps = s.straps ∧ (s.renameNodes old).station = s.station ∧
    (s.renameNodes old).towLine = s.towLine ∧ (s.renameNodes old).coup = s.coup ∧
    (s.renameNodes old).lines = s.lines ∧ (s.renameNodes old).tx = s.tx ∧
    (s.renameNodes old).sent = s.sent ∧ (s.renameNodes old).readBack = s.readBack ∧
    (s.renameNodes old).draws = s.draws ∧ (s.renameNodes old).pending = s.pending := by
  simp [State.renameNodes, State.foldl_now, State.foldl_epoch, State.foldl_straps, State.foldl_station,
    State.foldl_towLine, State.foldl_coup, State.foldl_lines, State.foldl_tx, State.foldl_sent,
    State.foldl_readBack, State.foldl_draws, State.foldl_pending]

@[simp] theorem State.installSlotTable_frame (s : State) (image : Bytes) :
    (s.installSlotTable image).now = s.now ∧ (s.installSlotTable image).epoch = s.epoch ∧
    (s.installSlotTable image).straps = s.straps ∧ (s.installSlotTable image).station = s.station ∧
    (s.installSlotTable image).towLine = s.towLine ∧ (s.installSlotTable image).coup = s.coup ∧
    (s.installSlotTable image).lines = s.lines ∧ (s.installSlotTable image).tx = s.tx ∧
    (s.installSlotTable image).sent = s.sent ∧ (s.installSlotTable image).readBack = s.readBack ∧
    (s.installSlotTable image).draws = s.draws ∧ (s.installSlotTable image).pending = s.pending := by
  simp [State.installSlotTable]

@[simp] theorem State.installPending_frame (s : State) :
    (s.installPending).now = s.now ∧ (s.installPending).epoch = s.epoch ∧
    (s.installPending).straps = s.straps ∧ (s.installPending).station = s.station ∧
    (s.installPending).towLine = s.towLine ∧ (s.installPending).coup = s.coup ∧
    (s.installPending).lines = s.lines ∧ (s.installPending).tx = s.tx ∧ (s.installPending).sent = s.sent ∧
    (s.installPending).readBack = s.readBack ∧ (s.installPending).draws = s.draws ∧
    (s.installPending).pending = s.pending := by
  unfold State.installPending
  repeat' (first | split | (dsimp only; split))
  all_goals simp

@[simp] theorem State.acceptSlotTable_frame (s : State) (image : Bytes) :
    (s.acceptSlotTable image).epoch = s.epoch ∧ (s.acceptSlotTable image).straps = s.straps ∧
    (s.acceptSlotTable image).station = s.station ∧ (s.acceptSlotTable image).towLine = s.towLine ∧
    (s.acceptSlotTable image).coup = s.coup ∧ (s.acceptSlotTable image).lines = s.lines ∧
    (s.acceptSlotTable image).tx = s.tx ∧ (s.acceptSlotTable image).readBack = s.readBack ∧
    (s.acceptSlotTable image).draws = s.draws ∧ (s.acceptSlotTable image).pending = s.pending := by
  unfold State.acceptSlotTable
  repeat' (first | split | (dsimp only; split))
  all_goals simp

@[simp] theorem State.boundary_frame (s : State) :
    (s.boundary).epoch = s.epoch ∧ (s.boundary).straps = s.straps ∧ (s.boundary).station = s.station ∧
    (s.boundary).towLine = s.towLine ∧ (s.boundary).coup = s.coup ∧ (s.boundary).lines = s.lines ∧
    (s.boundary).tx = s.tx ∧ (s.boundary).readBack = s.readBack ∧ (s.boundary).draws = s.draws ∧
    (s.boundary).pending = s.pending := by
  unfold State.boundary
  repeat' (first | split | (dsimp only; split))
  all_goals simp

@[simp] theorem State.noteOverrun_frame (s : State) :
    (s.noteOverrun).now = s.now ∧ (s.noteOverrun).epoch = s.epoch ∧ (s.noteOverrun).straps = s.straps ∧
    (s.noteOverrun).station = s.station ∧ (s.noteOverrun).prop = s.prop ∧ (s.noteOverrun).steer = s.steer ∧
    (s.noteOverrun).towLine = s.towLine ∧ (s.noteOverrun).coup = s.coup ∧ (s.noteOverrun).fuel = s.fuel ∧
    (s.noteOverrun).transfer = s.transfer ∧ (s.noteOverrun).cond = s.cond ∧
    (s.noteOverrun).store = s.store ∧ (s.noteOverrun).tx = s.tx ∧ (s.noteOverrun).sent = s.sent ∧
    (s.noteOverrun).readBack = s.readBack ∧ (s.noteOverrun).draws = s.draws ∧
    (s.noteOverrun).pending = s.pending := by
  unfold State.noteOverrun
  repeat' (first | split | (dsimp only; split))
  all_goals simp

@[simp] theorem State.closeWindow_frame (s : State) (w : MachWindow) :
    (s.closeWindow w).now = s.now ∧ (s.closeWindow w).epoch = s.epoch ∧
    (s.closeWindow w).straps = s.straps ∧ (s.closeWindow w).station = s.station ∧
    (s.closeWindow w).towLine = s.towLine ∧ (s.closeWindow w).coup = s.coup ∧ (s.closeWindow w).tx = s.tx ∧
    (s.closeWindow w).readBack = s.readBack ∧ (s.closeWindow w).draws = s.draws ∧
    (s.closeWindow w).pending = s.pending := by
  unfold State.closeWindow
  repeat' (first | split | (dsimp only; split))
  all_goals simp

@[simp] theorem State.takeReport_frame (s : State) (w : MachWindow) (payload : Bytes) :
    (s.takeReport w payload).now = s.now ∧ (s.takeReport w payload).epoch = s.epoch ∧
    (s.takeReport w payload).straps = s.straps ∧ (s.takeReport w payload).station = s.station ∧
    (s.takeReport w payload).towLine = s.towLine ∧ (s.takeReport w payload).coup = s.coup ∧
    (s.takeReport w payload).lines = s.lines ∧ (s.takeReport w payload).tx = s.tx ∧
    (s.takeReport w payload).sent = s.sent ∧ (s.takeReport w payload).readBack = s.readBack ∧
    (s.takeReport w payload).pending = s.pending := by
  simp [State.takeReport]

@[simp] theorem State.resetMach_frame (s : State) :
    (s.resetMach).now = s.now ∧ (s.resetMach).epoch = s.epoch ∧ (s.resetMach).straps = s.straps ∧
    (s.resetMach).station = s.station ∧ (s.resetMach).prop = s.prop ∧ (s.resetMach).steer = s.steer ∧
    (s.resetMach).towLine = s.towLine ∧ (s.resetMach).coup = s.coup ∧ (s.resetMach).fuel = s.fuel ∧
    (s.resetMach).transfer = s.transfer ∧ (s.resetMach).cond = s.cond ∧ (s.resetMach).store = s.store ∧
    (s.resetMach).lines = s.lines ∧ (s.resetMach).tx = s.tx ∧ (s.resetMach).sent = s.sent ∧
    (s.resetMach).readBack = s.readBack ∧ (s.resetMach).draws = s.draws ∧
    (s.resetMach).pending = s.pending := by
  simp [State.resetMach]

@[simp] theorem State.restartSlotTable_frame (s : State) :
    (s.restartSlotTable).now = s.now ∧ (s.restartSlotTable).epoch = s.epoch ∧
    (s.restartSlotTable).straps = s.straps ∧ (s.restartSlotTable).station = s.station ∧
    (s.restartSlotTable).prop = s.prop ∧ (s.restartSlotTable).steer = s.steer ∧
    (s.restartSlotTable).mach = s.mach ∧ (s.restartSlotTable).towLine = s.towLine ∧
    (s.restartSlotTable).coup = s.coup ∧ (s.restartSlotTable).fuel = s.fuel ∧
    (s.restartSlotTable).transfer = s.transfer ∧ (s.restartSlotTable).cond = s.cond ∧
    (s.restartSlotTable).lines = s.lines ∧ (s.restartSlotTable).tx = s.tx ∧
    (s.restartSlotTable).sent = s.sent ∧ (s.restartSlotTable).readBack = s.readBack ∧
    (s.restartSlotTable).draws = s.draws ∧ (s.restartSlotTable).pending = s.pending := by
  unfold State.restartSlotTable
  repeat' (first | split | (dsimp only; split))
  all_goals simp

/-! ## Operations of Machine/Authority.lean -/

@[simp] theorem State.setResult_frame (s : State) (n : Fin 4) (r : EventResult) :
    (s.setResult n r).now = s.now ∧ (s.setResult n r).epoch = s.epoch ∧
    (s.setResult n r).straps = s.straps ∧ (s.setResult n r).prop = s.prop ∧
    (s.setResult n r).steer = s.steer ∧ (s.setResult n r).mach = s.mach ∧
    (s.setResult n r).towLine = s.towLine ∧ (s.setResult n r).coup = s.coup ∧
    (s.setResult n r).fuel = s.fuel ∧ (s.setResult n r).transfer = s.transfer ∧
    (s.setResult n r).cond = s.cond ∧ (s.setResult n r).store = s.store ∧
    (s.setResult n r).lines = s.lines ∧ (s.setResult n r).tx = s.tx ∧ (s.setResult n r).sent = s.sent ∧
    (s.setResult n r).readBack = s.readBack ∧ (s.setResult n r).draws = s.draws ∧
    (s.setResult n r).pending = s.pending := by
  simp [State.setResult]

@[simp] theorem State.setHolder_frame (s : State) (h : Option (Fin 4)) :
    (s.setHolder h).now = s.now ∧ (s.setHolder h).epoch = s.epoch ∧ (s.setHolder h).straps = s.straps ∧
    (s.setHolder h).prop = s.prop ∧ (s.setHolder h).steer = s.steer ∧ (s.setHolder h).mach = s.mach ∧
    (s.setHolder h).towLine = s.towLine ∧ (s.setHolder h).coup = s.coup ∧ (s.setHolder h).fuel = s.fuel ∧
    (s.setHolder h).transfer = s.transfer ∧ (s.setHolder h).cond = s.cond ∧
    (s.setHolder h).store = s.store ∧ (s.setHolder h).lines = s.lines ∧ (s.setHolder h).tx = s.tx ∧
    (s.setHolder h).sent = s.sent ∧ (s.setHolder h).readBack = s.readBack ∧
    (s.setHolder h).draws = s.draws ∧ (s.setHolder h).pending = s.pending := by
  simp [State.setHolder]

@[simp] theorem State.setRequest_frame (s : State) (r : Option (Fin 4)) (timer : Option Moment) :
    (s.setRequest r timer).now = s.now ∧ (s.setRequest r timer).epoch = s.epoch ∧
    (s.setRequest r timer).straps = s.straps ∧ (s.setRequest r timer).prop = s.prop ∧
    (s.setRequest r timer).steer = s.steer ∧ (s.setRequest r timer).mach = s.mach ∧
    (s.setRequest r timer).towLine = s.towLine ∧ (s.setRequest r timer).coup = s.coup ∧
    (s.setRequest r timer).fuel = s.fuel ∧ (s.setRequest r timer).transfer = s.transfer ∧
    (s.setRequest r timer).cond = s.cond ∧ (s.setRequest r timer).store = s.store ∧
    (s.setRequest r timer).lines = s.lines ∧ (s.setRequest r timer).tx = s.tx ∧
    (s.setRequest r timer).sent = s.sent ∧ (s.setRequest r timer).readBack = s.readBack ∧
    (s.setRequest r timer).draws = s.draws ∧ (s.setRequest r timer).pending = s.pending := by
  simp [State.setRequest]

@[simp] theorem State.setOrphan_frame (s : State) (timer : Option Moment) :
    (s.setOrphan timer).now = s.now ∧ (s.setOrphan timer).epoch = s.epoch ∧
    (s.setOrphan timer).straps = s.straps ∧ (s.setOrphan timer).prop = s.prop ∧
    (s.setOrphan timer).steer = s.steer ∧ (s.setOrphan timer).mach = s.mach ∧
    (s.setOrphan timer).towLine = s.towLine ∧ (s.setOrphan timer).coup = s.coup ∧
    (s.setOrphan timer).fuel = s.fuel ∧ (s.setOrphan timer).transfer = s.transfer ∧
    (s.setOrphan timer).cond = s.cond ∧ (s.setOrphan timer).store = s.store ∧
    (s.setOrphan timer).lines = s.lines ∧ (s.setOrphan timer).tx = s.tx ∧
    (s.setOrphan timer).sent = s.sent ∧ (s.setOrphan timer).readBack = s.readBack ∧
    (s.setOrphan timer).draws = s.draws ∧ (s.setOrphan timer).pending = s.pending := by
  simp [State.setOrphan]

@[simp] theorem State.evalLeverFault_frame (s : State) :
    (s.evalLeverFault).now = s.now ∧ (s.evalLeverFault).epoch = s.epoch ∧
    (s.evalLeverFault).straps = s.straps ∧ (s.evalLeverFault).station = s.station ∧
    (s.evalLeverFault).prop = s.prop ∧ (s.evalLeverFault).steer = s.steer ∧
    (s.evalLeverFault).mach = s.mach ∧ (s.evalLeverFault).towLine = s.towLine ∧
    (s.evalLeverFault).coup = s.coup ∧ (s.evalLeverFault).fuel = s.fuel ∧
    (s.evalLeverFault).transfer = s.transfer ∧ (s.evalLeverFault).store = s.store ∧
    (s.evalLeverFault).lines = s.lines ∧ (s.evalLeverFault).tx = s.tx ∧ (s.evalLeverFault).sent = s.sent ∧
    (s.evalLeverFault).readBack = s.readBack ∧ (s.evalLeverFault).draws = s.draws ∧
    (s.evalLeverFault).pending = s.pending := by
  simp [State.evalLeverFault]

@[simp] theorem State.clearLevers_frame (s : State) :
    (s.clearLevers).now = s.now ∧ (s.clearLevers).epoch = s.epoch ∧ (s.clearLevers).straps = s.straps ∧
    (s.clearLevers).prop = s.prop ∧ (s.clearLevers).steer = s.steer ∧ (s.clearLevers).mach = s.mach ∧
    (s.clearLevers).towLine = s.towLine ∧ (s.clearLevers).coup = s.coup ∧ (s.clearLevers).fuel = s.fuel ∧
    (s.clearLevers).transfer = s.transfer ∧ (s.clearLevers).cond = s.cond ∧
    (s.clearLevers).store = s.store ∧ (s.clearLevers).lines = s.lines ∧ (s.clearLevers).tx = s.tx ∧
    (s.clearLevers).sent = s.sent ∧ (s.clearLevers).readBack = s.readBack ∧
    (s.clearLevers).draws = s.draws ∧ (s.clearLevers).pending = s.pending := by
  simp [State.clearLevers]

@[simp] theorem State.takeValues_frame (s : State) (f : HelmFrame) :
    (s.takeValues f).now = s.now ∧ (s.takeValues f).epoch = s.epoch ∧ (s.takeValues f).straps = s.straps ∧
    (s.takeValues f).prop = s.prop ∧ (s.takeValues f).steer = s.steer ∧ (s.takeValues f).mach = s.mach ∧
    (s.takeValues f).towLine = s.towLine ∧ (s.takeValues f).coup = s.coup ∧
    (s.takeValues f).fuel = s.fuel ∧ (s.takeValues f).transfer = s.transfer ∧
    (s.takeValues f).store = s.store ∧ (s.takeValues f).lines = s.lines ∧ (s.takeValues f).tx = s.tx ∧
    (s.takeValues f).sent = s.sent ∧ (s.takeValues f).readBack = s.readBack ∧
    (s.takeValues f).draws = s.draws ∧ (s.takeValues f).pending = s.pending := by
  simp [State.takeValues]

@[simp] theorem State.zeroValues_frame (s : State) :
    (s.zeroValues).now = s.now ∧ (s.zeroValues).epoch = s.epoch ∧ (s.zeroValues).straps = s.straps ∧
    (s.zeroValues).prop = s.prop ∧ (s.zeroValues).steer = s.steer ∧ (s.zeroValues).mach = s.mach ∧
    (s.zeroValues).towLine = s.towLine ∧ (s.zeroValues).coup = s.coup ∧ (s.zeroValues).fuel = s.fuel ∧
    (s.zeroValues).transfer = s.transfer ∧ (s.zeroValues).store = s.store ∧
    (s.zeroValues).lines = s.lines ∧ (s.zeroValues).tx = s.tx ∧ (s.zeroValues).sent = s.sent ∧
    (s.zeroValues).readBack = s.readBack ∧ (s.zeroValues).draws = s.draws ∧
    (s.zeroValues).pending = s.pending := by
  simp [State.zeroValues]

@[simp] theorem State.applyLastFrame_frame (s : State) (n : Fin 4) :
    (s.applyLastFrame n).now = s.now ∧ (s.applyLastFrame n).epoch = s.epoch ∧
    (s.applyLastFrame n).straps = s.straps ∧ (s.applyLastFrame n).prop = s.prop ∧
    (s.applyLastFrame n).steer = s.steer ∧ (s.applyLastFrame n).mach = s.mach ∧
    (s.applyLastFrame n).towLine = s.towLine ∧ (s.applyLastFrame n).coup = s.coup ∧
    (s.applyLastFrame n).fuel = s.fuel ∧ (s.applyLastFrame n).transfer = s.transfer ∧
    (s.applyLastFrame n).store = s.store ∧ (s.applyLastFrame n).lines = s.lines ∧
    (s.applyLastFrame n).tx = s.tx ∧ (s.applyLastFrame n).sent = s.sent ∧
    (s.applyLastFrame n).readBack = s.readBack ∧ (s.applyLastFrame n).draws = s.draws ∧
    (s.applyLastFrame n).pending = s.pending := by
  unfold State.applyLastFrame
  repeat' (first | split | (dsimp only; split))
  all_goals simp

@[simp] theorem State.becomeHolder_frame (s : State) (n : Fin 4) :
    (s.becomeHolder n).now = s.now ∧ (s.becomeHolder n).epoch = s.epoch ∧
    (s.becomeHolder n).straps = s.straps ∧ (s.becomeHolder n).steer = s.steer ∧
    (s.becomeHolder n).mach = s.mach ∧ (s.becomeHolder n).towLine = s.towLine ∧
    (s.becomeHolder n).coup = s.coup ∧ (s.becomeHolder n).fuel = s.fuel ∧
    (s.becomeHolder n).transfer = s.transfer ∧ (s.becomeHolder n).store = s.store ∧
    (s.becomeHolder n).lines = s.lines ∧ (s.becomeHolder n).tx = s.tx ∧ (s.becomeHolder n).sent = s.sent ∧
    (s.becomeHolder n).readBack = s.readBack ∧ (s.becomeHolder n).draws = s.draws ∧
    (s.becomeHolder n).pending = s.pending := by
  simp [State.becomeHolder]

@[simp] theorem State.takeCommand_frame (s : State) (n : Fin 4) :
    (s.takeCommand n).now = s.now ∧ (s.takeCommand n).epoch = s.epoch ∧
    (s.takeCommand n).straps = s.straps ∧ (s.takeCommand n).steer = s.steer ∧
    (s.takeCommand n).mach = s.mach ∧ (s.takeCommand n).towLine = s.towLine ∧
    (s.takeCommand n).coup = s.coup ∧ (s.takeCommand n).fuel = s.fuel ∧
    (s.takeCommand n).transfer = s.transfer ∧ (s.takeCommand n).store = s.store ∧
    (s.takeCommand n).lines = s.lines ∧ (s.takeCommand n).tx = s.tx ∧ (s.takeCommand n).sent = s.sent ∧
    (s.takeCommand n).readBack = s.readBack ∧ (s.takeCommand n).draws = s.draws ∧
    (s.takeCommand n).pending = s.pending := by
  unfold State.takeCommand
  repeat' (first | split | (dsimp only; split))
  all_goals simp

@[simp] theorem State.releaseCommand_frame (s : State) (n : Fin 4) :
    (s.releaseCommand n).now = s.now ∧ (s.releaseCommand n).epoch = s.epoch ∧
    (s.releaseCommand n).straps = s.straps ∧ (s.releaseCommand n).steer = s.steer ∧
    (s.releaseCommand n).mach = s.mach ∧ (s.releaseCommand n).towLine = s.towLine ∧
    (s.releaseCommand n).coup = s.coup ∧ (s.releaseCommand n).fuel = s.fuel ∧
    (s.releaseCommand n).transfer = s.transfer ∧ (s.releaseCommand n).store = s.store ∧
    (s.releaseCommand n).lines = s.lines ∧ (s.releaseCommand n).tx = s.tx ∧
    (s.releaseCommand n).sent = s.sent ∧ (s.releaseCommand n).readBack = s.readBack ∧
    (s.releaseCommand n).draws = s.draws ∧ (s.releaseCommand n).pending = s.pending := by
  unfold State.releaseCommand
  repeat' (first | split | (dsimp only; split))
  all_goals simp

@[simp] theorem State.refuseRequest_frame (s : State) (n : Fin 4) :
    (s.refuseRequest n).now = s.now ∧ (s.refuseRequest n).epoch = s.epoch ∧
    (s.refuseRequest n).straps = s.straps ∧ (s.refuseRequest n).prop = s.prop ∧
    (s.refuseRequest n).steer = s.steer ∧ (s.refuseRequest n).mach = s.mach ∧
    (s.refuseRequest n).towLine = s.towLine ∧ (s.refuseRequest n).coup = s.coup ∧
    (s.refuseRequest n).fuel = s.fuel ∧ (s.refuseRequest n).transfer = s.transfer ∧
    (s.refuseRequest n).cond = s.cond ∧ (s.refuseRequest n).store = s.store ∧
    (s.refuseRequest n).lines = s.lines ∧ (s.refuseRequest n).tx = s.tx ∧
    (s.refuseRequest n).sent = s.sent ∧ (s.refuseRequest n).readBack = s.readBack ∧
    (s.refuseRequest n).draws = s.draws ∧ (s.refuseRequest n).pending = s.pending := by
  unfold State.refuseRequest
  repeat' (first | split | (dsimp only; split))
  all_goals simp

@[simp] theorem State.seizeRequest_frame (s : State) (n : Fin 4) :
    (s.seizeRequest n).now = s.now ∧ (s.seizeRequest n).epoch = s.epoch ∧
    (s.seizeRequest n).straps = s.straps ∧ (s.seizeRequest n).prop = s.prop ∧
    (s.seizeRequest n).steer = s.steer ∧ (s.seizeRequest n).mach = s.mach ∧
    (s.seizeRequest n).towLine = s.towLine ∧ (s.seizeRequest n).coup = s.coup ∧
    (s.seizeRequest n).fuel = s.fuel ∧ (s.seizeRequest n).transfer = s.transfer ∧
    (s.seizeRequest n).cond = s.cond ∧ (s.seizeRequest n).store = s.store ∧
    (s.seizeRequest n).lines = s.lines ∧ (s.seizeRequest n).tx = s.tx ∧ (s.seizeRequest n).sent = s.sent ∧
    (s.seizeRequest n).readBack = s.readBack ∧ (s.seizeRequest n).draws = s.draws ∧
    (s.seizeRequest n).pending = s.pending := by
  unfold State.seizeRequest
  repeat' (first | split | (dsimp only; split))
  all_goals simp

@[simp] theorem State.seizeHolder_frame (s : State) :
    (s.seizeHolder).now = s.now ∧ (s.seizeHolder).epoch = s.epoch ∧ (s.seizeHolder).straps = s.straps ∧
    (s.seizeHolder).prop = s.prop ∧ (s.seizeHolder).steer = s.steer ∧ (s.seizeHolder).mach = s.mach ∧
    (s.seizeHolder).towLine = s.towLine ∧ (s.seizeHolder).coup = s.coup ∧ (s.seizeHolder).fuel = s.fuel ∧
    (s.seizeHolder).transfer = s.transfer ∧ (s.seizeHolder).cond = s.cond ∧
    (s.seizeHolder).store = s.store ∧ (s.seizeHolder).lines = s.lines ∧ (s.seizeHolder).tx = s.tx ∧
    (s.seizeHolder).sent = s.sent ∧ (s.seizeHolder).readBack = s.readBack ∧
    (s.seizeHolder).draws = s.draws ∧ (s.seizeHolder).pending = s.pending := by
  unfold State.seizeHolder
  repeat' (first | split | (dsimp only; split))
  all_goals simp

@[simp] theorem State.seizeCommand_frame (s : State) (n : Fin 4) :
    (s.seizeCommand n).now = s.now ∧ (s.seizeCommand n).epoch = s.epoch ∧
    (s.seizeCommand n).straps = s.straps ∧ (s.seizeCommand n).steer = s.steer ∧
    (s.seizeCommand n).mach = s.mach ∧ (s.seizeCommand n).towLine = s.towLine ∧
    (s.seizeCommand n).coup = s.coup ∧ (s.seizeCommand n).fuel = s.fuel ∧
    (s.seizeCommand n).transfer = s.transfer ∧ (s.seizeCommand n).store = s.store ∧
    (s.seizeCommand n).lines = s.lines ∧ (s.seizeCommand n).tx = s.tx ∧ (s.seizeCommand n).sent = s.sent ∧
    (s.seizeCommand n).readBack = s.readBack ∧ (s.seizeCommand n).draws = s.draws ∧
    (s.seizeCommand n).pending = s.pending := by
  unfold State.seizeCommand
  repeat' (first | split | (dsimp only; split))
  all_goals simp

@[simp] theorem State.timeOutRequest_frame (s : State) :
    (s.timeOutRequest).now = s.now ∧ (s.timeOutRequest).epoch = s.epoch ∧
    (s.timeOutRequest).straps = s.straps ∧ (s.timeOutRequest).prop = s.prop ∧
    (s.timeOutRequest).steer = s.steer ∧ (s.timeOutRequest).mach = s.mach ∧
    (s.timeOutRequest).towLine = s.towLine ∧ (s.timeOutRequest).coup = s.coup ∧
    (s.timeOutRequest).fuel = s.fuel ∧ (s.timeOutRequest).transfer = s.transfer ∧
    (s.timeOutRequest).cond = s.cond ∧ (s.timeOutRequest).store = s.store ∧
    (s.timeOutRequest).lines = s.lines ∧ (s.timeOutRequest).tx = s.tx ∧ (s.timeOutRequest).sent = s.sent ∧
    (s.timeOutRequest).readBack = s.readBack ∧ (s.timeOutRequest).draws = s.draws ∧
    (s.timeOutRequest).pending = s.pending := by
  unfold State.timeOutRequest
  repeat' (first | split | (dsimp only; split))
  all_goals simp

@[simp] theorem State.loseHolder_frame (s : State) :
    (s.loseHolder).now = s.now ∧ (s.loseHolder).epoch = s.epoch ∧ (s.loseHolder).straps = s.straps ∧
    (s.loseHolder).prop = s.prop ∧ (s.loseHolder).steer = s.steer ∧ (s.loseHolder).mach = s.mach ∧
    (s.loseHolder).towLine = s.towLine ∧ (s.loseHolder).coup = s.coup ∧ (s.loseHolder).fuel = s.fuel ∧
    (s.loseHolder).transfer = s.transfer ∧ (s.loseHolder).store = s.store ∧
    (s.loseHolder).lines = s.lines ∧ (s.loseHolder).tx = s.tx ∧ (s.loseHolder).sent = s.sent ∧
    (s.loseHolder).readBack = s.readBack ∧ (s.loseHolder).draws = s.draws ∧
    (s.loseHolder).pending = s.pending := by
  simp [State.loseHolder]

@[simp] theorem State.takeSplit_frame (s : State) :
    ((s.takeSplit).2).now = s.now ∧ ((s.takeSplit).2).epoch = s.epoch ∧
    ((s.takeSplit).2).straps = s.straps ∧ ((s.takeSplit).2).station = s.station ∧
    ((s.takeSplit).2).prop = s.prop ∧ ((s.takeSplit).2).mach = s.mach ∧ ((s.takeSplit).2).fuel = s.fuel ∧
    ((s.takeSplit).2).transfer = s.transfer ∧ ((s.takeSplit).2).lines = s.lines ∧
    ((s.takeSplit).2).tx = s.tx ∧ ((s.takeSplit).2).readBack = s.readBack ∧
    ((s.takeSplit).2).draws = s.draws ∧ ((s.takeSplit).2).pending = s.pending := by
  unfold State.takeSplit
  repeat' (first | split | (dsimp only; split))
  all_goals simp

@[simp] theorem State.takeAbortSplit_frame (s : State) :
    ((s.takeAbortSplit).2).now = s.now ∧ ((s.takeAbortSplit).2).epoch = s.epoch ∧
    ((s.takeAbortSplit).2).straps = s.straps ∧ ((s.takeAbortSplit).2).station = s.station ∧
    ((s.takeAbortSplit).2).prop = s.prop ∧ ((s.takeAbortSplit).2).mach = s.mach ∧
    ((s.takeAbortSplit).2).towLine = s.towLine ∧ ((s.takeAbortSplit).2).fuel = s.fuel ∧
    ((s.takeAbortSplit).2).transfer = s.transfer ∧ ((s.takeAbortSplit).2).lines = s.lines ∧
    ((s.takeAbortSplit).2).tx = s.tx ∧ ((s.takeAbortSplit).2).sent = s.sent ∧
    ((s.takeAbortSplit).2).readBack = s.readBack ∧ ((s.takeAbortSplit).2).draws = s.draws ∧
    ((s.takeAbortSplit).2).pending = s.pending := by
  unfold State.takeAbortSplit
  repeat' (first | split | (dsimp only; split))
  all_goals simp

@[simp] theorem State.takeRecouple_frame (s : State) :
    ((s.takeRecouple).2).now = s.now ∧ ((s.takeRecouple).2).epoch = s.epoch ∧
    ((s.takeRecouple).2).straps = s.straps ∧ ((s.takeRecouple).2).station = s.station ∧
    ((s.takeRecouple).2).prop = s.prop ∧ ((s.takeRecouple).2).mach = s.mach ∧
    ((s.takeRecouple).2).fuel = s.fuel ∧ ((s.takeRecouple).2).transfer = s.transfer ∧
    ((s.takeRecouple).2).lines = s.lines ∧ ((s.takeRecouple).2).tx = s.tx ∧
    ((s.takeRecouple).2).readBack = s.readBack ∧ ((s.takeRecouple).2).draws = s.draws ∧
    ((s.takeRecouple).2).pending = s.pending := by
  unfold State.takeRecouple
  repeat' (first | split | (dsimp only; split))
  all_goals simp

@[simp] theorem State.takeAbortRejoin_frame (s : State) :
    ((s.takeAbortRejoin).2).now = s.now ∧ ((s.takeAbortRejoin).2).epoch = s.epoch ∧
    ((s.takeAbortRejoin).2).straps = s.straps ∧ ((s.takeAbortRejoin).2).station = s.station ∧
    ((s.takeAbortRejoin).2).prop = s.prop ∧ ((s.takeAbortRejoin).2).mach = s.mach ∧
    ((s.takeAbortRejoin).2).towLine = s.towLine ∧ ((s.takeAbortRejoin).2).fuel = s.fuel ∧
    ((s.takeAbortRejoin).2).transfer = s.transfer ∧ ((s.takeAbortRejoin).2).lines = s.lines ∧
    ((s.takeAbortRejoin).2).tx = s.tx ∧ ((s.takeAbortRejoin).2).sent = s.sent ∧
    ((s.takeAbortRejoin).2).readBack = s.readBack ∧ ((s.takeAbortRejoin).2).draws = s.draws ∧
    ((s.takeAbortRejoin).2).pending = s.pending := by
  unfold State.takeAbortRejoin
  repeat' (first | split | (dsimp only; split))
  all_goals simp

@[simp] theorem State.takeTransferStop_frame (s : State) :
    ((s.takeTransferStop).2).now = s.now ∧ ((s.takeTransferStop).2).epoch = s.epoch ∧
    ((s.takeTransferStop).2).straps = s.straps ∧ ((s.takeTransferStop).2).station = s.station ∧
    ((s.takeTransferStop).2).prop = s.prop ∧ ((s.takeTransferStop).2).steer = s.steer ∧
    ((s.takeTransferStop).2).mach = s.mach ∧ ((s.takeTransferStop).2).towLine = s.towLine ∧
    ((s.takeTransferStop).2).coup = s.coup ∧ ((s.takeTransferStop).2).fuel = s.fuel ∧
    ((s.takeTransferStop).2).cond = s.cond ∧ ((s.takeTransferStop).2).store = s.store ∧
    ((s.takeTransferStop).2).lines = s.lines ∧ ((s.takeTransferStop).2).tx = s.tx ∧
    ((s.takeTransferStop).2).sent = s.sent ∧ ((s.takeTransferStop).2).readBack = s.readBack ∧
    ((s.takeTransferStop).2).draws = s.draws ∧ ((s.takeTransferStop).2).pending = s.pending := by
  unfold State.takeTransferStop
  repeat' (first | split | (dsimp only; split))
  all_goals simp

@[simp] theorem State.actOn_frame (s : State) (n : Fin 4) (k : EventKind) :
    (s.actOn n k).now = s.now ∧ (s.actOn n k).epoch = s.epoch ∧ (s.actOn n k).straps = s.straps ∧
    (s.actOn n k).mach = s.mach ∧ (s.actOn n k).fuel = s.fuel ∧ (s.actOn n k).lines = s.lines ∧
    (s.actOn n k).tx = s.tx ∧ (s.actOn n k).readBack = s.readBack ∧ (s.actOn n k).draws = s.draws ∧
    (s.actOn n k).pending = s.pending := by
  cases k <;> simp [State.actOn, State.holderOnly] <;> split <;> simp

@[simp] theorem State.offerEvent_frame (s : State) (n : Fin 4) (count : Nat) (k : EventKind) :
    (s.offerEvent n count k).now = s.now ∧ (s.offerEvent n count k).epoch = s.epoch ∧
    (s.offerEvent n count k).straps = s.straps ∧ (s.offerEvent n count k).mach = s.mach ∧
    (s.offerEvent n count k).fuel = s.fuel ∧ (s.offerEvent n count k).lines = s.lines ∧
    (s.offerEvent n count k).tx = s.tx ∧ (s.offerEvent n count k).readBack = s.readBack ∧
    (s.offerEvent n count k).draws = s.draws ∧ (s.offerEvent n count k).pending = s.pending := by
  unfold State.offerEvent
  repeat' (first | split | (dsimp only; split))
  all_goals simp

@[simp] theorem State.eventFrom_frame (s : State) (station count : Nat) (k : EventKind) :
    (s.eventFrom station count k).now = s.now ∧ (s.eventFrom station count k).epoch = s.epoch ∧
    (s.eventFrom station count k).straps = s.straps ∧ (s.eventFrom station count k).mach = s.mach ∧
    (s.eventFrom station count k).fuel = s.fuel ∧ (s.eventFrom station count k).lines = s.lines ∧
    (s.eventFrom station count k).tx = s.tx ∧ (s.eventFrom station count k).readBack = s.readBack ∧
    (s.eventFrom station count k).draws = s.draws ∧ (s.eventFrom station count k).pending = s.pending := by
  unfold State.eventFrom
  repeat' (first | split | (dsimp only; split))
  all_goals simp

@[simp] theorem State.hearHelm_frame (s : State) (n : Fin 4) (f : HelmFrame) :
    (s.hearHelm n f).now = s.now ∧ (s.hearHelm n f).epoch = s.epoch ∧ (s.hearHelm n f).straps = s.straps ∧
    (s.hearHelm n f).mach = s.mach ∧ (s.hearHelm n f).fuel = s.fuel ∧ (s.hearHelm n f).lines = s.lines ∧
    (s.hearHelm n f).tx = s.tx ∧ (s.hearHelm n f).readBack = s.readBack ∧
    (s.hearHelm n f).draws = s.draws ∧ (s.hearHelm n f).pending = s.pending := by
  unfold State.hearHelm
  repeat' (first | split | (dsimp only; split))
  all_goals simp

@[simp] theorem State.goSilent_frame (s : State) (n : Fin 4) :
    (s.goSilent n).now = s.now ∧ (s.goSilent n).epoch = s.epoch ∧ (s.goSilent n).straps = s.straps ∧
    (s.goSilent n).prop = s.prop ∧ (s.goSilent n).steer = s.steer ∧ (s.goSilent n).mach = s.mach ∧
    (s.goSilent n).towLine = s.towLine ∧ (s.goSilent n).coup = s.coup ∧ (s.goSilent n).fuel = s.fuel ∧
    (s.goSilent n).transfer = s.transfer ∧ (s.goSilent n).store = s.store ∧
    (s.goSilent n).lines = s.lines ∧ (s.goSilent n).tx = s.tx ∧ (s.goSilent n).sent = s.sent ∧
    (s.goSilent n).readBack = s.readBack ∧ (s.goSilent n).draws = s.draws ∧
    (s.goSilent n).pending = s.pending := by
  unfold State.goSilent
  repeat' (first | split | (dsimp only; split))
  all_goals simp

@[simp] theorem State.silenceExpires_frame (s : State) (n : Fin 4) :
    (s.silenceExpires n).epoch = s.epoch ∧ (s.silenceExpires n).straps = s.straps ∧
    (s.silenceExpires n).prop = s.prop ∧ (s.silenceExpires n).steer = s.steer ∧
    (s.silenceExpires n).mach = s.mach ∧ (s.silenceExpires n).towLine = s.towLine ∧
    (s.silenceExpires n).coup = s.coup ∧ (s.silenceExpires n).fuel = s.fuel ∧
    (s.silenceExpires n).transfer = s.transfer ∧ (s.silenceExpires n).store = s.store ∧
    (s.silenceExpires n).lines = s.lines ∧ (s.silenceExpires n).tx = s.tx ∧
    (s.silenceExpires n).sent = s.sent ∧ (s.silenceExpires n).readBack = s.readBack ∧
    (s.silenceExpires n).draws = s.draws ∧ (s.silenceExpires n).pending = s.pending := by
  unfold State.silenceExpires
  repeat' (first | split | (dsimp only; split))
  all_goals simp

@[simp] theorem State.invalidExpires_frame (s : State) (c : Fin 4) :
    (s.invalidExpires c).epoch = s.epoch ∧ (s.invalidExpires c).straps = s.straps ∧
    (s.invalidExpires c).prop = s.prop ∧ (s.invalidExpires c).steer = s.steer ∧
    (s.invalidExpires c).mach = s.mach ∧ (s.invalidExpires c).towLine = s.towLine ∧
    (s.invalidExpires c).coup = s.coup ∧ (s.invalidExpires c).fuel = s.fuel ∧
    (s.invalidExpires c).transfer = s.transfer ∧ (s.invalidExpires c).store = s.store ∧
    (s.invalidExpires c).lines = s.lines ∧ (s.invalidExpires c).tx = s.tx ∧
    (s.invalidExpires c).sent = s.sent ∧ (s.invalidExpires c).readBack = s.readBack ∧
    (s.invalidExpires c).draws = s.draws ∧ (s.invalidExpires c).pending = s.pending := by
  unfold State.invalidExpires
  repeat' (first | split | (dsimp only; split))
  all_goals simp

@[simp] theorem State.applyStationTable_frame (s : State) :
    (s.applyStationTable).now = s.now ∧ (s.applyStationTable).epoch = s.epoch ∧
    (s.applyStationTable).straps = s.straps ∧ (s.applyStationTable).prop = s.prop ∧
    (s.applyStationTable).steer = s.steer ∧ (s.applyStationTable).mach = s.mach ∧
    (s.applyStationTable).towLine = s.towLine ∧ (s.applyStationTable).coup = s.coup ∧
    (s.applyStationTable).fuel = s.fuel ∧ (s.applyStationTable).transfer = s.transfer ∧
    (s.applyStationTable).store = s.store ∧ (s.applyStationTable).lines = s.lines ∧
    (s.applyStationTable).tx = s.tx ∧ (s.applyStationTable).sent = s.sent ∧
    (s.applyStationTable).readBack = s.readBack ∧ (s.applyStationTable).draws = s.draws ∧
    (s.applyStationTable).pending = s.pending := by
  simp [State.applyStationTable, State.foldl_now, State.foldl_epoch, State.foldl_straps, State.foldl_prop,
    State.foldl_steer, State.foldl_mach, State.foldl_towLine, State.foldl_coup, State.foldl_fuel,
    State.foldl_transfer, State.foldl_store, State.foldl_lines, State.foldl_tx, State.foldl_sent,
    State.foldl_readBack, State.foldl_draws, State.foldl_pending, apply_ite State.now,
    apply_ite State.epoch, apply_ite State.straps, apply_ite State.prop, apply_ite State.steer,
    apply_ite State.mach, apply_ite State.towLine, apply_ite State.coup, apply_ite State.fuel,
    apply_ite State.transfer, apply_ite State.store, apply_ite State.lines, apply_ite State.tx,
    apply_ite State.sent, apply_ite State.readBack, apply_ite State.draws, apply_ite State.pending]

@[simp] theorem State.resetStations_frame (s : State) :
    (s.resetStations).now = s.now ∧ (s.resetStations).epoch = s.epoch ∧
    (s.resetStations).straps = s.straps ∧ (s.resetStations).prop = s.prop ∧
    (s.resetStations).steer = s.steer ∧ (s.resetStations).mach = s.mach ∧
    (s.resetStations).towLine = s.towLine ∧ (s.resetStations).coup = s.coup ∧
    (s.resetStations).fuel = s.fuel ∧ (s.resetStations).transfer = s.transfer ∧
    (s.resetStations).cond = s.cond ∧ (s.resetStations).store = s.store ∧
    (s.resetStations).lines = s.lines ∧ (s.resetStations).tx = s.tx ∧ (s.resetStations).sent = s.sent ∧
    (s.resetStations).readBack = s.readBack ∧ (s.resetStations).draws = s.draws ∧
    (s.resetStations).pending = s.pending := by
  simp [State.resetStations]

/-! ## Operations of Machine/Loads.lean -/

@[simp] theorem State.openBuffer_frame (s : State) (station table length : Nat) :
    (s.openBuffer station table length).now = s.now ∧ (s.openBuffer station table length).epoch = s.epoch ∧
    (s.openBuffer station table length).straps = s.straps ∧
    (s.openBuffer station table length).station = s.station ∧
    (s.openBuffer station table length).prop = s.prop ∧
    (s.openBuffer station table length).steer = s.steer ∧
    (s.openBuffer station table length).mach = s.mach ∧
    (s.openBuffer station table length).towLine = s.towLine ∧
    (s.openBuffer station table length).coup = s.coup ∧ (s.openBuffer station table length).fuel = s.fuel ∧
    (s.openBuffer station table length).transfer = s.transfer ∧
    (s.openBuffer station table length).cond = s.cond ∧
    (s.openBuffer station table length).lines = s.lines ∧ (s.openBuffer station table length).tx = s.tx ∧
    (s.openBuffer station table length).sent = s.sent ∧
    (s.openBuffer station table length).readBack = s.readBack ∧
    (s.openBuffer station table length).draws = s.draws ∧
    (s.openBuffer station table length).pending = s.pending := by
  simp [State.openBuffer]

@[simp] theorem State.freeBuffer_frame (s : State) :
    (s.freeBuffer).now = s.now ∧ (s.freeBuffer).epoch = s.epoch ∧ (s.freeBuffer).straps = s.straps ∧
    (s.freeBuffer).station = s.station ∧ (s.freeBuffer).prop = s.prop ∧ (s.freeBuffer).steer = s.steer ∧
    (s.freeBuffer).mach = s.mach ∧ (s.freeBuffer).towLine = s.towLine ∧ (s.freeBuffer).coup = s.coup ∧
    (s.freeBuffer).fuel = s.fuel ∧ (s.freeBuffer).transfer = s.transfer ∧ (s.freeBuffer).cond = s.cond ∧
    (s.freeBuffer).lines = s.lines ∧ (s.freeBuffer).tx = s.tx ∧ (s.freeBuffer).sent = s.sent ∧
    (s.freeBuffer).readBack = s.readBack ∧ (s.freeBuffer).draws = s.draws ∧
    (s.freeBuffer).pending = s.pending := by
  simp [State.freeBuffer]

@[simp] theorem State.dequeue_frame (s : State) :
    (s.dequeue).now = s.now ∧ (s.dequeue).epoch = s.epoch ∧ (s.dequeue).straps = s.straps ∧
    (s.dequeue).station = s.station ∧ (s.dequeue).prop = s.prop ∧ (s.dequeue).steer = s.steer ∧
    (s.dequeue).mach = s.mach ∧ (s.dequeue).towLine = s.towLine ∧ (s.dequeue).coup = s.coup ∧
    (s.dequeue).fuel = s.fuel ∧ (s.dequeue).transfer = s.transfer ∧ (s.dequeue).cond = s.cond ∧
    (s.dequeue).lines = s.lines ∧ (s.dequeue).tx = s.tx ∧ (s.dequeue).sent = s.sent ∧
    (s.dequeue).readBack = s.readBack ∧ (s.dequeue).draws = s.draws ∧ (s.dequeue).pending = s.pending := by
  simp [State.dequeue]

@[simp] theorem State.takeWaiting_frame (s : State) :
    (s.takeWaiting).now = s.now ∧ (s.takeWaiting).epoch = s.epoch ∧ (s.takeWaiting).straps = s.straps ∧
    (s.takeWaiting).station = s.station ∧ (s.takeWaiting).prop = s.prop ∧ (s.takeWaiting).steer = s.steer ∧
    (s.takeWaiting).mach = s.mach ∧ (s.takeWaiting).towLine = s.towLine ∧ (s.takeWaiting).coup = s.coup ∧
    (s.takeWaiting).fuel = s.fuel ∧ (s.takeWaiting).transfer = s.transfer ∧ (s.takeWaiting).cond = s.cond ∧
    (s.takeWaiting).lines = s.lines ∧ (s.takeWaiting).sent = s.sent ∧
    (s.takeWaiting).readBack = s.readBack ∧ (s.takeWaiting).draws = s.draws ∧
    (s.takeWaiting).pending = s.pending := by
  unfold State.takeWaiting
  repeat' (first | split | (dsimp only; split))
  all_goals simp

@[simp] theorem State.beginHeld_frame (s : State) (station tag table length : Nat) :
    (s.beginHeld station tag table length).now = s.now ∧
    (s.beginHeld station tag table length).epoch = s.epoch ∧
    (s.beginHeld station tag table length).straps = s.straps ∧
    (s.beginHeld station tag table length).station = s.station ∧
    (s.beginHeld station tag table length).prop = s.prop ∧
    (s.beginHeld station tag table length).steer = s.steer ∧
    (s.beginHeld station tag table length).mach = s.mach ∧
    (s.beginHeld station tag table length).towLine = s.towLine ∧
    (s.beginHeld station tag table length).coup = s.coup ∧
    (s.beginHeld station tag table length).fuel = s.fuel ∧
    (s.beginHeld station tag table length).transfer = s.transfer ∧
    (s.beginHeld station tag table length).cond = s.cond ∧
    (s.beginHeld station tag table length).lines = s.lines ∧
    (s.beginHeld station tag table length).sent = s.sent ∧
    (s.beginHeld station tag table length).readBack = s.readBack ∧
    (s.beginHeld station tag table length).draws = s.draws ∧
    (s.beginHeld station tag table length).pending = s.pending := by
  unfold State.beginHeld
  repeat' (first | split | (dsimp only; split))
  all_goals simp

@[simp] theorem State.loadBegin_frame (s : State) (station tag table length : Nat) :
    (s.loadBegin station tag table length).now = s.now ∧
    (s.loadBegin station tag table length).epoch = s.epoch ∧
    (s.loadBegin station tag table length).straps = s.straps ∧
    (s.loadBegin station tag table length).station = s.station ∧
    (s.loadBegin station tag table length).prop = s.prop ∧
    (s.loadBegin station tag table length).steer = s.steer ∧
    (s.loadBegin station tag table length).mach = s.mach ∧
    (s.loadBegin station tag table length).towLine = s.towLine ∧
    (s.loadBegin station tag table length).coup = s.coup ∧
    (s.loadBegin station tag table length).fuel = s.fuel ∧
    (s.loadBegin station tag table length).transfer = s.transfer ∧
    (s.loadBegin station tag table length).cond = s.cond ∧
    (s.loadBegin station tag table length).lines = s.lines ∧
    (s.loadBegin station tag table length).sent = s.sent ∧
    (s.loadBegin station tag table length).readBack = s.readBack ∧
    (s.loadBegin station tag table length).draws = s.draws ∧
    (s.loadBegin station tag table length).pending = s.pending := by
  unfold State.loadBegin
  repeat' (first | split | (dsimp only; split))
  all_goals simp

@[simp] theorem State.loadData_frame (s : State) (station offset : Nat) (data : Bytes) :
    (s.loadData station offset data).now = s.now ∧ (s.loadData station offset data).epoch = s.epoch ∧
    (s.loadData station offset data).straps = s.straps ∧
    (s.loadData station offset data).station = s.station ∧ (s.loadData station offset data).prop = s.prop ∧
    (s.loadData station offset data).steer = s.steer ∧ (s.loadData station offset data).mach = s.mach ∧
    (s.loadData station offset data).towLine = s.towLine ∧ (s.loadData station offset data).coup = s.coup ∧
    (s.loadData station offset data).fuel = s.fuel ∧
    (s.loadData station offset data).transfer = s.transfer ∧
    (s.loadData station offset data).cond = s.cond ∧ (s.loadData station offset data).lines = s.lines ∧
    (s.loadData station offset data).sent = s.sent ∧
    (s.loadData station offset data).readBack = s.readBack ∧
    (s.loadData station offset data).draws = s.draws ∧ (s.loadData station offset data).pending = s.pending := by
  unfold State.loadData
  repeat' (first | split | (dsimp only; split))
  all_goals simp

@[simp] theorem State.abandonLoad_frame (s : State) :
    (s.abandonLoad).now = s.now ∧ (s.abandonLoad).epoch = s.epoch ∧ (s.abandonLoad).straps = s.straps ∧
    (s.abandonLoad).station = s.station ∧ (s.abandonLoad).prop = s.prop ∧ (s.abandonLoad).steer = s.steer ∧
    (s.abandonLoad).mach = s.mach ∧ (s.abandonLoad).towLine = s.towLine ∧ (s.abandonLoad).coup = s.coup ∧
    (s.abandonLoad).fuel = s.fuel ∧ (s.abandonLoad).transfer = s.transfer ∧ (s.abandonLoad).cond = s.cond ∧
    (s.abandonLoad).lines = s.lines ∧ (s.abandonLoad).sent = s.sent ∧
    (s.abandonLoad).readBack = s.readBack ∧ (s.abandonLoad).draws = s.draws ∧
    (s.abandonLoad).pending = s.pending := by
  simp [State.abandonLoad]

@[simp] theorem State.replySent_frame (s : State) :
    (s.replySent).now = s.now ∧ (s.replySent).epoch = s.epoch ∧ (s.replySent).straps = s.straps ∧
    (s.replySent).station = s.station ∧ (s.replySent).prop = s.prop ∧ (s.replySent).steer = s.steer ∧
    (s.replySent).mach = s.mach ∧ (s.replySent).towLine = s.towLine ∧ (s.replySent).coup = s.coup ∧
    (s.replySent).fuel = s.fuel ∧ (s.replySent).transfer = s.transfer ∧ (s.replySent).cond = s.cond ∧
    (s.replySent).lines = s.lines ∧ (s.replySent).sent = s.sent ∧
    (s.replySent).readBack = s.readBack ∧ (s.replySent).draws = s.draws ∧
    (s.replySent).pending = s.pending := by
  unfold State.replySent
  repeat' (first | split | (dsimp only; split))
  all_goals simp

/-! ## Operations of Machine/StationLine.lean -/

@[simp] theorem State.sendFollowUp_frame (s : State) :
    (s.sendFollowUp).now = s.now ∧ (s.sendFollowUp).epoch = s.epoch ∧ (s.sendFollowUp).straps = s.straps ∧
    (s.sendFollowUp).station = s.station ∧ (s.sendFollowUp).prop = s.prop ∧
    (s.sendFollowUp).steer = s.steer ∧ (s.sendFollowUp).mach = s.mach ∧
    (s.sendFollowUp).towLine = s.towLine ∧ (s.sendFollowUp).coup = s.coup ∧
    (s.sendFollowUp).fuel = s.fuel ∧ (s.sendFollowUp).transfer = s.transfer ∧
    (s.sendFollowUp).cond = s.cond ∧ (s.sendFollowUp).store = s.store ∧ (s.sendFollowUp).lines = s.lines ∧
    (s.sendFollowUp).readBack = s.readBack ∧ (s.sendFollowUp).draws = s.draws ∧
    (s.sendFollowUp).pending = s.pending := by
  simp [State.sendFollowUp]

@[simp] theorem State.sendReply_frame (s : State) :
    (s.sendReply).now = s.now ∧ (s.sendReply).epoch = s.epoch ∧ (s.sendReply).straps = s.straps ∧
    (s.sendReply).station = s.station ∧ (s.sendReply).prop = s.prop ∧ (s.sendReply).steer = s.steer ∧
    (s.sendReply).mach = s.mach ∧ (s.sendReply).towLine = s.towLine ∧ (s.sendReply).coup = s.coup ∧
    (s.sendReply).fuel = s.fuel ∧ (s.sendReply).transfer = s.transfer ∧ (s.sendReply).cond = s.cond ∧
    (s.sendReply).lines = s.lines ∧ (s.sendReply).readBack = s.readBack ∧
    (s.sendReply).draws = s.draws ∧ (s.sendReply).pending = s.pending := by
  unfold State.sendReply
  repeat' (first | split | (dsimp only; split))
  all_goals simp

@[simp] theorem State.idleGap_frame (s : State) :
    (s.idleGap).now = s.now ∧ (s.idleGap).epoch = s.epoch ∧ (s.idleGap).straps = s.straps ∧
    (s.idleGap).station = s.station ∧ (s.idleGap).prop = s.prop ∧ (s.idleGap).steer = s.steer ∧
    (s.idleGap).mach = s.mach ∧ (s.idleGap).towLine = s.towLine ∧ (s.idleGap).coup = s.coup ∧
    (s.idleGap).fuel = s.fuel ∧ (s.idleGap).transfer = s.transfer ∧ (s.idleGap).cond = s.cond ∧
    (s.idleGap).lines = s.lines ∧ (s.idleGap).readBack = s.readBack ∧ (s.idleGap).pending = s.pending := by
  unfold State.idleGap
  repeat' (first | split | (dsimp only; split))
  all_goals simp

@[simp] theorem State.scheduleFollowUp_frame (s : State) :
    (s.scheduleFollowUp).epoch = s.epoch ∧ (s.scheduleFollowUp).straps = s.straps ∧
    (s.scheduleFollowUp).prop = s.prop ∧ (s.scheduleFollowUp).steer = s.steer ∧
    (s.scheduleFollowUp).mach = s.mach ∧ (s.scheduleFollowUp).towLine = s.towLine ∧
    (s.scheduleFollowUp).coup = s.coup ∧ (s.scheduleFollowUp).fuel = s.fuel ∧
    (s.scheduleFollowUp).transfer = s.transfer ∧ (s.scheduleFollowUp).cond = s.cond ∧
    (s.scheduleFollowUp).store = s.store ∧ (s.scheduleFollowUp).lines = s.lines ∧
    (s.scheduleFollowUp).sent = s.sent ∧ (s.scheduleFollowUp).readBack = s.readBack ∧
    (s.scheduleFollowUp).draws = s.draws ∧ (s.scheduleFollowUp).pending = s.pending := by
  simp [State.scheduleFollowUp]

@[simp] theorem State.readbackFails_frame (s : State) :
    (s.readbackFails).now = s.now ∧ (s.readbackFails).epoch = s.epoch ∧
    (s.readbackFails).straps = s.straps ∧ (s.readbackFails).station = s.station ∧
    (s.readbackFails).prop = s.prop ∧ (s.readbackFails).steer = s.steer ∧ (s.readbackFails).mach = s.mach ∧
    (s.readbackFails).towLine = s.towLine ∧ (s.readbackFails).coup = s.coup ∧
    (s.readbackFails).fuel = s.fuel ∧ (s.readbackFails).transfer = s.transfer ∧
    (s.readbackFails).cond = s.cond ∧ (s.readbackFails).store = s.store ∧
    (s.readbackFails).readBack = s.readBack ∧ (s.readbackFails).draws = s.draws ∧
    (s.readbackFails).pending = s.pending := by
  unfold State.readbackFails
  repeat' (first | split | (dsimp only; split))
  all_goals simp

@[simp] theorem State.discard_frame (s : State) (line : Line) (dst src kind : Nat) :
    (s.discard line dst src kind).now = s.now ∧ (s.discard line dst src kind).epoch = s.epoch ∧
    (s.discard line dst src kind).straps = s.straps ∧ (s.discard line dst src kind).station = s.station ∧
    (s.discard line dst src kind).prop = s.prop ∧ (s.discard line dst src kind).steer = s.steer ∧
    (s.discard line dst src kind).mach = s.mach ∧ (s.discard line dst src kind).towLine = s.towLine ∧
    (s.discard line dst src kind).coup = s.coup ∧ (s.discard line dst src kind).fuel = s.fuel ∧
    (s.discard line dst src kind).transfer = s.transfer ∧ (s.discard line dst src kind).cond = s.cond ∧
    (s.discard line dst src kind).store = s.store ∧ (s.discard line dst src kind).tx = s.tx ∧
    (s.discard line dst src kind).sent = s.sent ∧
    (s.discard line dst src kind).readBack = s.readBack ∧
    (s.discard line dst src kind).draws = s.draws ∧ (s.discard line dst src kind).pending = s.pending := by
  unfold State.discard
  repeat' (first | split | (dsimp only; split))
  all_goals simp

/-! ## Operations of Machine/Management.lean -/

@[simp] theorem State.arrive_frame (s : State) (r : MgmtRequest) :
    (s.arrive r).now = s.now ∧ (s.arrive r).epoch = s.epoch ∧ (s.arrive r).straps = s.straps ∧
    (s.arrive r).station = s.station ∧ (s.arrive r).prop = s.prop ∧ (s.arrive r).steer = s.steer ∧
    (s.arrive r).mach = s.mach ∧ (s.arrive r).towLine = s.towLine ∧ (s.arrive r).coup = s.coup ∧
    (s.arrive r).fuel = s.fuel ∧ (s.arrive r).transfer = s.transfer ∧ (s.arrive r).cond = s.cond ∧
    (s.arrive r).lines = s.lines ∧ (s.arrive r).sent = s.sent ∧ (s.arrive r).readBack = s.readBack ∧
    (s.arrive r).draws = s.draws ∧ (s.arrive r).pending = s.pending := by
  unfold State.arrive
  repeat' (first | split | (dsimp only; split))
  all_goals simp

@[simp] theorem State.takeRequest_frame (s : State) (station : Nat) (payload : Bytes) :
    (s.takeRequest station payload).now = s.now ∧ (s.takeRequest station payload).epoch = s.epoch ∧
    (s.takeRequest station payload).straps = s.straps ∧
    (s.takeRequest station payload).station = s.station ∧ (s.takeRequest station payload).prop = s.prop ∧
    (s.takeRequest station payload).steer = s.steer ∧ (s.takeRequest station payload).mach = s.mach ∧
    (s.takeRequest station payload).towLine = s.towLine ∧ (s.takeRequest station payload).coup = s.coup ∧
    (s.takeRequest station payload).fuel = s.fuel ∧ (s.takeRequest station payload).transfer = s.transfer ∧
    (s.takeRequest station payload).cond = s.cond ∧ (s.takeRequest station payload).lines = s.lines ∧
    (s.takeRequest station payload).sent = s.sent ∧
    (s.takeRequest station payload).readBack = s.readBack ∧
    (s.takeRequest station payload).draws = s.draws ∧ (s.takeRequest station payload).pending = s.pending := by
  simp [State.takeRequest]

@[simp] theorem State.bringIn_frame (s : State) (r : MgmtRequest) :
    (s.bringIn r).now = s.now ∧ (s.bringIn r).epoch = s.epoch ∧ (s.bringIn r).straps = s.straps ∧
    (s.bringIn r).station = s.station ∧ (s.bringIn r).prop = s.prop ∧ (s.bringIn r).steer = s.steer ∧
    (s.bringIn r).mach = s.mach ∧ (s.bringIn r).towLine = s.towLine ∧ (s.bringIn r).coup = s.coup ∧
    (s.bringIn r).fuel = s.fuel ∧ (s.bringIn r).transfer = s.transfer ∧ (s.bringIn r).cond = s.cond ∧
    (s.bringIn r).sent = s.sent ∧ (s.bringIn r).readBack = s.readBack ∧
    (s.bringIn r).draws = s.draws ∧ (s.bringIn r).pending = s.pending := by
  unfold State.bringIn
  repeat' (first | split | (dsimp only; split))
  all_goals simp

@[simp] theorem State.dropUnfitted_frame (s : State) :
    (s.dropUnfitted).now = s.now ∧ (s.dropUnfitted).epoch = s.epoch ∧ (s.dropUnfitted).straps = s.straps ∧
    (s.dropUnfitted).station = s.station ∧ (s.dropUnfitted).prop = s.prop ∧
    (s.dropUnfitted).steer = s.steer ∧ (s.dropUnfitted).mach = s.mach ∧
    (s.dropUnfitted).towLine = s.towLine ∧ (s.dropUnfitted).coup = s.coup ∧
    (s.dropUnfitted).fuel = s.fuel ∧ (s.dropUnfitted).transfer = s.transfer ∧
    (s.dropUnfitted).cond = s.cond ∧ (s.dropUnfitted).lines = s.lines ∧ (s.dropUnfitted).tx = s.tx ∧
    (s.dropUnfitted).sent = s.sent ∧ (s.dropUnfitted).readBack = s.readBack ∧
    (s.dropUnfitted).draws = s.draws ∧ (s.dropUnfitted).pending = s.pending := by
  unfold State.dropUnfitted
  repeat' (first | split | (dsimp only; split))
  all_goals simp

@[simp] theorem State.applyTable_frame (s old : State) (id : Fin 13) :
    (s.applyTable old id).now = s.now ∧ (s.applyTable old id).epoch = s.epoch ∧
    (s.applyTable old id).straps = s.straps ∧ (s.applyTable old id).mach = s.mach ∧
    (s.applyTable old id).lines = s.lines ∧ (s.applyTable old id).tx = s.tx ∧
    (s.applyTable old id).readBack = s.readBack ∧ (s.applyTable old id).draws = s.draws ∧
    (s.applyTable old id).pending = s.pending := by
  unfold State.applyTable
  repeat' (first | split | (dsimp only; split))
  all_goals simp

@[simp] theorem State.takeImage_frame (s : State) (id : Fin 13) (image : Bytes) :
    (s.takeImage id image).now = s.now ∧ (s.takeImage id image).epoch = s.epoch ∧
    (s.takeImage id image).straps = s.straps ∧ (s.takeImage id image).station = s.station ∧
    (s.takeImage id image).prop = s.prop ∧ (s.takeImage id image).steer = s.steer ∧
    (s.takeImage id image).mach = s.mach ∧ (s.takeImage id image).towLine = s.towLine ∧
    (s.takeImage id image).coup = s.coup ∧ (s.takeImage id image).fuel = s.fuel ∧
    (s.takeImage id image).transfer = s.transfer ∧ (s.takeImage id image).cond = s.cond ∧
    (s.takeImage id image).lines = s.lines ∧ (s.takeImage id image).tx = s.tx ∧
    (s.takeImage id image).sent = s.sent ∧ (s.takeImage id image).readBack = s.readBack ∧
    (s.takeImage id image).draws = s.draws ∧ (s.takeImage id image).pending = s.pending := by
  simp [State.takeImage]

@[simp] theorem State.acceptLoad_frame (s : State) (id : Fin 13) (image : Bytes) :
    (s.acceptLoad id image).epoch = s.epoch ∧ (s.acceptLoad id image).straps = s.straps ∧
    (s.acceptLoad id image).lines = s.lines ∧ (s.acceptLoad id image).tx = s.tx ∧
    (s.acceptLoad id image).readBack = s.readBack ∧ (s.acceptLoad id image).draws = s.draws ∧
    (s.acceptLoad id image).pending = s.pending := by
  unfold State.acceptLoad
  repeat' (first | split | (dsimp only; split))
  all_goals simp

@[simp] theorem State.endLoad_frame (s : State) (b : LoadBuffer) (crc : Nat) :
    (s.endLoad b crc).epoch = s.epoch ∧ (s.endLoad b crc).straps = s.straps ∧
    (s.endLoad b crc).lines = s.lines ∧ (s.endLoad b crc).readBack = s.readBack ∧
    (s.endLoad b crc).draws = s.draws ∧ (s.endLoad b crc).pending = s.pending := by
  unfold State.endLoad
  repeat' (first | split | (dsimp only; split))
  all_goals simp

@[simp] theorem State.loadEnd_frame (s : State) (station crc : Nat) :
    (s.loadEnd station crc).epoch = s.epoch ∧ (s.loadEnd station crc).straps = s.straps ∧
    (s.loadEnd station crc).lines = s.lines ∧ (s.loadEnd station crc).readBack = s.readBack ∧
    (s.loadEnd station crc).draws = s.draws ∧ (s.loadEnd station crc).pending = s.pending := by
  unfold State.loadEnd
  repeat' (first | split | (dsimp only; split))
  all_goals simp

@[simp] theorem State.readTable_frame (s : State) (table offset length : Nat) :
    (s.readTable table offset length).now = s.now ∧ (s.readTable table offset length).epoch = s.epoch ∧
    (s.readTable table offset length).straps = s.straps ∧
    (s.readTable table offset length).station = s.station ∧
    (s.readTable table offset length).prop = s.prop ∧ (s.readTable table offset length).steer = s.steer ∧
    (s.readTable table offset length).mach = s.mach ∧
    (s.readTable table offset length).towLine = s.towLine ∧
    (s.readTable table offset length).coup = s.coup ∧ (s.readTable table offset length).fuel = s.fuel ∧
    (s.readTable table offset length).transfer = s.transfer ∧
    (s.readTable table offset length).cond = s.cond ∧ (s.readTable table offset length).lines = s.lines ∧
    (s.readTable table offset length).sent = s.sent ∧
    (s.readTable table offset length).readBack = s.readBack ∧
    (s.readTable table offset length).draws = s.draws ∧
    (s.readTable table offset length).pending = s.pending := by
  unfold State.readTable
  repeat' (first | split | (dsimp only; split))
  all_goals simp

@[simp] theorem State.readState_frame (s : State) (group index part : Nat) :
    (s.readState group index part).now = s.now ∧ (s.readState group index part).epoch = s.epoch ∧
    (s.readState group index part).straps = s.straps ∧ (s.readState group index part).station = s.station ∧
    (s.readState group index part).prop = s.prop ∧ (s.readState group index part).steer = s.steer ∧
    (s.readState group index part).mach = s.mach ∧ (s.readState group index part).towLine = s.towLine ∧
    (s.readState group index part).coup = s.coup ∧ (s.readState group index part).fuel = s.fuel ∧
    (s.readState group index part).transfer = s.transfer ∧ (s.readState group index part).cond = s.cond ∧
    (s.readState group index part).lines = s.lines ∧ (s.readState group index part).sent = s.sent ∧
    (s.readState group index part).readBack = s.readBack ∧
    (s.readState group index part).draws = s.draws ∧ (s.readState group index part).pending = s.pending := by
  unfold State.readState
  repeat' (first | split | (dsimp only; split))
  all_goals simp

@[simp] theorem State.nextAlarm_frame (s : State) :
    (s.nextAlarm).now = s.now ∧ (s.nextAlarm).epoch = s.epoch ∧ (s.nextAlarm).straps = s.straps ∧
    (s.nextAlarm).station = s.station ∧ (s.nextAlarm).prop = s.prop ∧ (s.nextAlarm).steer = s.steer ∧
    (s.nextAlarm).mach = s.mach ∧ (s.nextAlarm).towLine = s.towLine ∧ (s.nextAlarm).coup = s.coup ∧
    (s.nextAlarm).fuel = s.fuel ∧ (s.nextAlarm).transfer = s.transfer ∧ (s.nextAlarm).lines = s.lines ∧
    (s.nextAlarm).sent = s.sent ∧ (s.nextAlarm).readBack = s.readBack ∧
    (s.nextAlarm).draws = s.draws ∧ (s.nextAlarm).pending = s.pending := by
  unfold State.nextAlarm
  repeat' (first | split | (dsimp only; split))
  all_goals simp

@[simp] theorem State.towNodeAccess_frame (s : State) (address direction offset length : Nat) (data : Bytes) :
    (s.towNodeAccess address direction offset length data).now = s.now ∧
    (s.towNodeAccess address direction offset length data).epoch = s.epoch ∧
    (s.towNodeAccess address direction offset length data).straps = s.straps ∧
    (s.towNodeAccess address direction offset length data).station = s.station ∧
    (s.towNodeAccess address direction offset length data).prop = s.prop ∧
    (s.towNodeAccess address direction offset length data).mach = s.mach ∧
    (s.towNodeAccess address direction offset length data).fuel = s.fuel ∧
    (s.towNodeAccess address direction offset length data).transfer = s.transfer ∧
    (s.towNodeAccess address direction offset length data).lines = s.lines ∧
    (s.towNodeAccess address direction offset length data).readBack = s.readBack ∧
    (s.towNodeAccess address direction offset length data).draws = s.draws ∧
    (s.towNodeAccess address direction offset length data).pending = s.pending := by
  unfold State.towNodeAccess
  repeat' (first | split | (dsimp only; split))
  all_goals simp

@[simp] theorem State.clearCounters_frame (s : State) :
    (s.clearCounters).now = s.now ∧ (s.clearCounters).epoch = s.epoch ∧
    (s.clearCounters).straps = s.straps ∧ (s.clearCounters).station = s.station ∧
    (s.clearCounters).prop = s.prop ∧ (s.clearCounters).steer = s.steer ∧ (s.clearCounters).coup = s.coup ∧
    (s.clearCounters).fuel = s.fuel ∧ (s.clearCounters).cond = s.cond ∧ (s.clearCounters).sent = s.sent ∧
    (s.clearCounters).readBack = s.readBack ∧ (s.clearCounters).draws = s.draws ∧
    (s.clearCounters).pending = s.pending := by
  simp [State.clearCounters]

@[simp] theorem State.scrubSlot_frame (s : State) (id : Fin 13) (found : ScrubRead) :
    (s.scrubSlot id found).now = s.now ∧ (s.scrubSlot id found).epoch = s.epoch ∧
    (s.scrubSlot id found).straps = s.straps ∧ (s.scrubSlot id found).station = s.station ∧
    (s.scrubSlot id found).prop = s.prop ∧ (s.scrubSlot id found).steer = s.steer ∧
    (s.scrubSlot id found).mach = s.mach ∧ (s.scrubSlot id found).towLine = s.towLine ∧
    (s.scrubSlot id found).coup = s.coup ∧ (s.scrubSlot id found).fuel = s.fuel ∧
    (s.scrubSlot id found).transfer = s.transfer ∧ (s.scrubSlot id found).lines = s.lines ∧
    (s.scrubSlot id found).tx = s.tx ∧ (s.scrubSlot id found).sent = s.sent ∧
    (s.scrubSlot id found).readBack = s.readBack ∧ (s.scrubSlot id found).draws = s.draws ∧
    (s.scrubSlot id found).pending = s.pending := by
  unfold State.scrubSlot
  repeat' (first | split | (dsimp only; split))
  all_goals simp

/-! ## Operations of Machine/Reset.lean -/

@[simp] theorem State.resetCond_frame (s : State) :
    (s.resetCond).now = s.now ∧ (s.resetCond).epoch = s.epoch ∧ (s.resetCond).straps = s.straps ∧
    (s.resetCond).station = s.station ∧ (s.resetCond).prop = s.prop ∧ (s.resetCond).steer = s.steer ∧
    (s.resetCond).mach = s.mach ∧ (s.resetCond).towLine = s.towLine ∧ (s.resetCond).coup = s.coup ∧
    (s.resetCond).fuel = s.fuel ∧ (s.resetCond).transfer = s.transfer ∧ (s.resetCond).store = s.store ∧
    (s.resetCond).lines = s.lines ∧ (s.resetCond).tx = s.tx ∧ (s.resetCond).sent = s.sent ∧
    (s.resetCond).readBack = s.readBack ∧ (s.resetCond).draws = s.draws ∧
    (s.resetCond).pending = s.pending := by
  simp [State.resetCond]

@[simp] theorem State.handStanding_frame (s : State) :
    (s.handStanding).now = s.now ∧ (s.handStanding).epoch = s.epoch ∧ (s.handStanding).straps = s.straps ∧
    (s.handStanding).station = s.station ∧ (s.handStanding).prop = s.prop ∧
    (s.handStanding).mach = s.mach ∧ (s.handStanding).towLine = s.towLine ∧
    (s.handStanding).coup = s.coup ∧ (s.handStanding).fuel = s.fuel ∧
    (s.handStanding).transfer = s.transfer ∧ (s.handStanding).store = s.store ∧
    (s.handStanding).lines = s.lines ∧ (s.handStanding).tx = s.tx ∧ (s.handStanding).sent = s.sent ∧
    (s.handStanding).readBack = s.readBack ∧ (s.handStanding).draws = s.draws ∧
    (s.handStanding).pending = s.pending := by
  simp [State.handStanding]

@[simp] theorem State.restartStore_frame (s : State) :
    (s.restartStore).now = s.now ∧ (s.restartStore).epoch = s.epoch ∧ (s.restartStore).straps = s.straps ∧
    (s.restartStore).station = s.station ∧ (s.restartStore).prop = s.prop ∧
    (s.restartStore).steer = s.steer ∧ (s.restartStore).mach = s.mach ∧
    (s.restartStore).towLine = s.towLine ∧ (s.restartStore).coup = s.coup ∧
    (s.restartStore).fuel = s.fuel ∧ (s.restartStore).transfer = s.transfer ∧
    (s.restartStore).cond = s.cond ∧ (s.restartStore).lines = s.lines ∧ (s.restartStore).tx = s.tx ∧
    (s.restartStore).sent = s.sent ∧ (s.restartStore).readBack = s.readBack ∧
    (s.restartStore).draws = s.draws ∧ (s.restartStore).pending = s.pending := by
  simp [State.restartStore]

@[simp] theorem State.restartTx_frame (s : State) :
    (s.restartTx).now = s.now ∧ (s.restartTx).epoch = s.epoch ∧ (s.restartTx).straps = s.straps ∧
    (s.restartTx).station = s.station ∧ (s.restartTx).prop = s.prop ∧ (s.restartTx).steer = s.steer ∧
    (s.restartTx).mach = s.mach ∧ (s.restartTx).towLine = s.towLine ∧ (s.restartTx).coup = s.coup ∧
    (s.restartTx).fuel = s.fuel ∧ (s.restartTx).transfer = s.transfer ∧ (s.restartTx).cond = s.cond ∧
    (s.restartTx).store = s.store ∧ (s.restartTx).lines = s.lines ∧ (s.restartTx).sent = s.sent ∧
    (s.restartTx).readBack = s.readBack ∧ (s.restartTx).draws = s.draws ∧
    (s.restartTx).pending = s.pending := by
  simp [State.restartTx]

@[simp] theorem State.controlRestart_frame (s : State) :
    (s.controlRestart).epoch = s.epoch ∧ (s.controlRestart).straps = s.straps ∧
    (s.controlRestart).lines = s.lines ∧ (s.controlRestart).readBack = s.readBack ∧
    (s.controlRestart).draws = s.draws ∧ (s.controlRestart).pending = s.pending := by
  simp [State.controlRestart]

@[simp] theorem State.coldStart_frame (s : State) (straps : Straps) (found : ColdRead) :
    (s.coldStart straps found).readBack = s.readBack ∧ (s.coldStart straps found).draws = s.draws ∧
    (s.coldStart straps found).pending = s.pending := by
  simp [State.coldStart]

end

end Sys2Proof.Machine
end

