-- ==== Sys2Proof/Laws/Ops.lean ====
section
/-! SUPPORT. What the shared operations can do, said once for each: the lemmas a proof about a command cites in
place of unfolding the operations it runs. -/

namespace Sys2Proof.Machine

/-! ### Indices and banks -/

/-- The index of the address n + 1. -/
theorem ix4?_succ (n : Fin 4) : ix4? (n.val+1) = some n := by
  revert n; decide

/-- Reading a bank after one record has changed. -/
theorem upd_get {α : Type} {n : Nat} (v : Vector α n) (i : Fin n) (f : α → α) (j : Nat) (hj : j < n) :
    (Bank.upd v i f)[j] = if i.val = j then f v[j] else v[j] := by
  unfold Bank.upd
  by_cases h : i.val = j
  · subst h; simp
  · simp [h]

/-- The index of a condition code. -/
theorem condIx_succ (i : Nat) (h : i < 45) : condIx (i+1) = some ⟨i, h⟩ := by
  have h2 : i + 1 ≤ 45 := h
  simp only [condIx, Nat.le_add_left, h2, and_self, if_true, Nat.add_sub_cancel, Option.some.injEq]
  exact Fin.ext (Nat.mod_eq_of_lt h)

/-! ### Events -/

/-- An event that its station offers is taken, and acts (R4). -/
theorem eventFrom_offers {s : State} {e : Env} {n : Fin 4} {count : Nat} (h : s.offers n count) (k) :
    (s.enter e).eventFrom (n.val+1) count k = (s.tookEvent e n count).actOn n k := by
  obtain ⟨h1, h2⟩ := h
  simp only [State.eventFrom, ix4?_succ, State.offerEvent]
  have : ((s.enter e).stationAt n) = s.stationAt n := rfl
  rw [this, if_pos ⟨h1, h2⟩]; rfl

/-- An event that its station does not offer is not taken (R4). -/
theorem eventFrom_not {s : State} {e : Env} {n : Fin 4} {count : Nat} (h : ¬ s.offers n count) (k) :
    (s.enter e).eventFrom (n.val+1) count k = s.enter e := by
  simp only [State.eventFrom, ix4?_succ, State.offerEvent]
  have : ((s.enter e).stationAt n) = s.stationAt n := rfl
  rw [this]; exact if_neg h

/-- Taking an event keeps the holder. -/
@[simp] theorem took_holder (s : State) (e n c) : (s.tookEvent e n c).station.holder = s.station.holder := rfl

/-- Taking an event keeps the requester. -/
@[simp] theorem took_requester (s : State) (e n c) : (s.tookEvent e n c).station.requester = s.station.requester := rfl

/-- The clock at a step. -/
@[simp] theorem enter_now (s : State) (e) : (s.enter e).now = max s.now e.time := rfl

/-- The clock as an event is taken. -/
theorem took_now (s : State) (e n c) : (s.tookEvent e n c).now = max s.now e.time := rfl

/-- Reading a station after one station has changed. -/
theorem stationAt_mod (s : State) (n m : Fin 4) (f) : (s.modStation n f).stationAt m = if n = m then f (s.stationAt m) else s.stationAt m := by
  simp only [State.stationAt, State.modStation, State.withStation]
  rw [upd_get]
  by_cases h : n = m
  · simp [h]
  · have : n.val ≠ m.val := fun h2 => h (Fin.ext h2)
    simp [h, this]

/-- Writing an event result touches that result alone. -/
theorem setResult_frame (s : State) (n r) : s.sameBut (s.setResult n r) [.station] ∧ (s.setResult n r).station = { s.station with stations := Bank.upd s.station.stations n fun x => { x with result := r } } := by
  constructor
  · intro p hp; cases p <;> simp [State.agree] at hp ⊢
  · rfl

/-! ### Conditions -/

/-- Handing over a source is the condition unit's own operation. -/
theorem setSource_cond (s : State) (i : Nat) (h : i < 45) (b : Bool) :
    (s.setSource (i+1) b).cond = s.cond.hand ⟨i,h⟩ b := by
  simp [State.setSource, condIx_succ i h]

/-- The source flags after a hand-over (R163). -/
theorem hand_source (c : CondUnit) (i : Fin 45) (b : Bool) (j : Nat) (hj : j < 45) :
    (c.hand i b).source[j] = if i.val = j then b else c.source[j] := by
  unfold CondUnit.hand
  split
  · rename_i h; split
    · rename_i h2; subst h2; exact h
    · rfl
  · simp [Vector.getElem_set]

/-- A hand-over moves no other code (R163). -/
theorem hand_alarm (c : CondUnit) (i : Fin 45) (b : Bool) (j : Nat) (hj : j < 45) (h : i.val ≠ j) :
    (c.hand i b).alarm[j] = c.alarm[j] := by
  unfold CondUnit.hand
  split
  · rfl
  · simp [upd_get, h]

/-- The source flags after a hand-over to the part (R163). -/
theorem setSource_source (s : State) (code : Nat) (b : Bool) (j : Nat) (hj : j < 45) :
    (s.setSource code b).cond.source[j] = if code = j + 1 then b else s.cond.source[j] := by
  unfold State.setSource
  by_cases hc : 1 ≤ code ∧ code ≤ 45
  · obtain ⟨k, rfl⟩ : ∃ k, code = k + 1 := ⟨code - 1, by omega⟩
    rw [condIx_succ k (by omega)]
    simp [hand_source]
  · have : condIx code = none := by simp [condIx]; omega
    rw [this]; rw [if_neg (by omega)]

/-- A hand-over to the part moves no other code (R163). -/
theorem setSource_alarm (s : State) (code : Nat) (b : Bool) (j : Nat) (hj : j < 45) (h : code ≠ j+1) :
    (s.setSource code b).cond.alarm[j] = s.cond.alarm[j] := by
  unfold State.setSource
  by_cases hc : 1 ≤ code ∧ code ≤ 45
  · obtain ⟨k, rfl⟩ : ∃ k, code = k + 1 := ⟨code - 1, by omega⟩
    rw [condIx_succ k (by omega)]
    simp; rw [hand_alarm]; simp; omega
  · have : condIx code = none := by simp [condIx]; omega
    rw [this]

/-- A code's source flag, by index. -/
theorem sourceOf_eq (s : State) (i : Nat) (h : i < 45) : s.sourceOf (i+1) = s.cond.source[i] := by
  simp [State.sourceOf, condIx_succ i h]

/-- A state shows what it shows. -/
theorem condsBut_refl (s : State) (l) : s.condsBut s l := fun _ _ => ⟨rfl, rfl⟩

/-- What two steps leave, their sequence leaves. -/
theorem condsBut_trans {s t u : State} {l} (h1 : s.condsBut t l) (h2 : t.condsBut u l) : s.condsBut u l :=
  fun i hi => ⟨(h2 i hi).1.trans (h1 i hi).1, (h2 i hi).2.trans (h1 i hi).2⟩

/-- What is left outside a list is left outside a longer one. -/
theorem condsBut_mono {s t : State} {l l'} (h1 : s.condsBut t l) (h : ∀ x ∈ l, x ∈ l') : s.condsBut t l' :=
  fun i hi => h1 i (fun h2 => hi (h _ h2))

/-- A hand-over leaves every code but its own. -/
theorem setSource_condsBut (s : State) (code b) (l) (h : code ∈ l) : s.condsBut (s.setSource code b) l := by
  intro i hi
  have : code ≠ i.val + 1 := by rintro rfl; exact hi h
  exact ⟨by rw [setSource_source _ _ _ _ i.2, if_neg this], setSource_alarm _ _ _ _ i.2 this⟩

/-- Equal condition units show the same. -/
theorem condsBut_of_cond {s t : State} (h : t.cond = s.cond) (l) : s.condsBut t l := by
  intro i _; rw [h]; exact ⟨rfl, rfl⟩

/-- A source flag outside the codes that may change. -/
theorem srcOf_keep {s t : State} {l} (h : s.condsBut t l) (i : Nat) (hi : i < 45) (hl : i+1 ∉ l) : t.sourceOf (i+1) = s.sourceOf (i+1) := by
  rw [sourceOf_eq _ _ hi, sourceOf_eq _ _ hi]; exact (h ⟨i, hi⟩ hl).1

/-- Every source flag after a hand-over. -/
theorem srcOf_set (s : State) (c : Nat) (_hc : 1 ≤ c ∧ c ≤ 45) (d : Nat) (hd : 1 ≤ d ∧ d ≤ 45) (b) : (s.setSource c b).sourceOf d = if c = d then b else s.sourceOf d := by
  obtain ⟨d, rfl⟩ : ∃ k, d = k + 1 := ⟨d - 1, by omega⟩
  rw [sourceOf_eq _ _ (by omega), sourceOf_eq _ _ (by omega), setSource_source]

/-! ### Priority (R165) -/

/-- One step of the search for the first code in priority order. -/
abbrev pickFirst (s : State) (p : Fin 45 → Bool) := fun (best : Option (Fin 45)) i => if p i then match best with
      | none => some i
      | some b => if (s.reaction i).cls < (s.reaction b).cls then some i else best
    else best

/-- `b` is the first in priority order of the codes of `l` that `p` accepts. -/
def IsBest (s : State) (p : Fin 45 → Bool) (l : List (Fin 45)) (b : Option (Fin 45)) : Prop :=
  match b with
  | none => ∀ i ∈ l, p i = false
  | some x => p x = true ∧ x ∈ l ∧ ∀ j ∈ l, p j = true → (s.reaction x).cls < (s.reaction j).cls ∨ ((s.reaction x).cls = (s.reaction j).cls ∧ x.val ≤ j.val)

/-- The search keeps the best of the codes it has passed. -/
theorem best_fold (s : State) (p : Fin 45 → Bool) (done todo : List (Fin 45)) (b : Option (Fin 45))
   (hs : (done ++ todo).Pairwise (· < ·)) (hb : IsBest s p done b) : IsBest s p (done ++ todo) (todo.foldl (pickFirst s p) b) := by
  induction todo generalizing done b with
  | nil => simpa using hb
  | cons x xs ih =>
    have hlt : ∀ a ∈ done, a < x := fun a ha => (List.pairwise_append.1 hs).2.2 a ha x (by simp)
    have := ih (done ++ [x]) (pickFirst s p b x) (by simpa using hs) ?_
    · simpa using this
    · unfold pickFirst
      cases hp : p x with
      | false =>
        simp only [Bool.false_eq_true, if_false]
        cases b with
        | none => intro i hi; simp at hi; rcases hi with hi | rfl; exact hb i hi; exact hp
        | some y =>
          refine ⟨hb.1, by simp [hb.2.1], fun j hj hpj => ?_⟩
          simp at hj; rcases hj with hj | rfl
          · exact hb.2.2 j hj hpj
          · simp [hp] at hpj
      | true =>
        simp only [if_true]
        cases b with
        | none =>
          refine ⟨hp, by simp, fun j hj hpj => ?_⟩
          simp at hj; rcases hj with hj | rfl
          · have := hb j hj; simp [this] at hpj
          · right; exact ⟨rfl, le_refl _⟩
        | some y =>
          dsimp only
          split
          · rename_i hc
            refine ⟨hp, by simp, fun j hj hpj => ?_⟩
            simp at hj; rcases hj with hj | rfl
            · rcases hb.2.2 j hj hpj with h | ⟨h, _⟩
              · left; omega
              · left; omega
            · right; exact ⟨rfl, le_refl _⟩
          · rename_i hc
            refine ⟨hb.1, by simp [hb.2.1], fun j hj hpj => ?_⟩
            simp at hj; rcases hj with hj | rfl
            · exact hb.2.2 j hj hpj
            · have h1 := hlt y hb.2.1
              have : y.val < j.val := h1
              by_cases h2 : (s.reaction y).cls = (s.reaction j).cls
              · right; exact ⟨h2, by omega⟩
              · left; omega

/-- The search finds the first code in priority order. -/
theorem first_spec (s : State) (p) : IsBest s p (Bank.indices 45) (s.firstByPriority p) := by
  have := best_fold s p [] (Bank.indices 45) none (by simpa [Bank.indices] using List.pairwise_lt_finRange 45) (by intro i hi; simp at hi)
  exact (show s.firstByPriority p = (Bank.indices 45).foldl (pickFirst s p) none from by unfold State.firstByPriority; congr) ▸ this

/-- The highest-priority unacknowledged code is the one R165 names. -/
theorem highest_iff (s : State) (i) : s.highestUnacked = some i ↔ s.highestUnackedIs i := by
  have h := first_spec s (fun i => s.cond.alarm[i.val].unacked)
  have hall : ∀ j : Fin 45, j ∈ Bank.indices 45 := fun j => by simp [Bank.indices]
  unfold State.highestUnacked State.highestUnackedIs
  cases hf : s.firstByPriority (fun i => s.cond.alarm[i.val].unacked) with
  | none =>
    rw [hf] at h
    simp; intro h2; have := h i (hall i); simp at this; simp [this] at h2
  | some x =>
    rw [hf] at h
    obtain ⟨h1, _, h3⟩ := h
    constructor
    · intro e; cases e; exact ⟨h1, fun j hj => h3 j (hall j) hj⟩
    · rintro ⟨a1, a2⟩
      congr 1
      have b1 := a2 x h1
      have b2 := h3 i (hall i) a1
      apply Fin.ext; omega

/-- With no code unacknowledged there is no highest one. -/
theorem highest_none (s : State) : (∀ i : Fin 45, (s.cond.alarm[i.val]).unacked = false) → s.highestUnacked = none := by
  intro h
  cases hf : s.highestUnacked with
  | none => rfl
  | some x => have := (highest_iff s x).1 hf; have := this.1; simp [h] at this

/-! ### Engines -/

/-- Reading an engine after one engine has changed. -/
theorem engineAt_mod (s : State) (n : Fin 4) (f) (m : Fin 4) :
    (s.modEngine n f).engineAt m = if n = m then f (s.engineAt m) else s.engineAt m := by
  simp only [State.engineAt, State.modEngine, State.withProp]
  rw [upd_get]
  by_cases h : n = m
  · simp [h]
  · have : n.val ≠ m.val := fun h2 => h (Fin.ext h2)
    simp [h, this]

/-- `t` is `s` but for member status, trim and SYNC DROPPED. -/
def TrimsOnly (s t : State) : Prop :=
  (∀ m : Fin 4, t.engineAt m = { s.engineAt m with member := (t.engineAt m).member, trim := (t.engineAt m).trim })
  ∧ t.prop.sync = s.prop.sync ∧ s.condsBut t [19]

/-- Nothing changed. -/
theorem TrimsOnly.refl (s) : TrimsOnly s s := ⟨fun _ => rfl, rfl, condsBut_refl _ _⟩

/-- In sequence. -/
theorem TrimsOnly.trans {s t u} (h1 : TrimsOnly s t) (h2 : TrimsOnly t u) : TrimsOnly s u :=
  ⟨fun m => by rw [h2.1 m, h1.1 m], h2.2.1.trans h1.2.1, condsBut_trans h1.2.2 h2.2.2⟩

/-- Over a list. -/
theorem TrimsOnly.foldl {α} (f : State → α → State) (h : ∀ t a, TrimsOnly t (f t a)) (l : List α) (s) : TrimsOnly s (l.foldl f s) := by
  induction l generalizing s with
  | nil => exact TrimsOnly.refl _
  | cons x xs ih => exact (h s x).trans (ih _)

/-- A change of one engine's member status and trim. -/
theorem TrimsOnly.mod (s : State) (n : Fin 4) (f : Engine → Engine)
    (h : ∀ g, f g = { g with member := (f g).member, trim := (f g).trim }) : TrimsOnly s (s.modEngine n f) := by
  refine ⟨fun m => ?_, rfl, condsBut_refl _ _⟩
  rw [engineAt_mod]
  split
  · exact h _
  · rfl

/-- SYNC DROPPED evaluated. -/
theorem TrimsOnly.evalSync (s : State) : TrimsOnly s s.evalSyncDropped := by
  refine ⟨fun m => ?_, ?_, setSource_condsBut _ _ _ _ (by simp)⟩
  · simp [State.engineAt]
  · simp

/-- A change of lead writes member status and trim alone (R46). -/
theorem onLeadChange_keeps (l) (g : Engine) : Engine.onLeadChange l g = { g with member := (Engine.onLeadChange l g).member, trim := (Engine.onLeadChange l g).trim } := by
  unfold Engine.onLeadChange Engine.asMember
  split <;> rfl

/-- Everything a choice of lead can do (R46). -/
theorem TrimsOnly.reLead (s : State) (c) : TrimsOnly s (s.reLead c) := by
  unfold State.reLead
  split
  · dsimp only
    split
    · exact TrimsOnly.refl _
    · refine TrimsOnly.trans ?_ (TrimsOnly.evalSync _)
      unfold State.changeLead
      refine TrimsOnly.foldl _ (fun t a => ?_) _ _
      split
      · exact TrimsOnly.mod _ _ _ (fun g => rfl)
      · split
        · exact TrimsOnly.refl _
        · exact TrimsOnly.mod _ _ _ (fun g => onLeadChange_keeps _ g)
  · exact TrimsOnly.refl _

/-- The same, from an engine's channel. -/
theorem TrimsOnly.reLeadOf (s : State) (n) : TrimsOnly s (s.reLeadOf n) := by
  unfold State.reLeadOf
  split
  · exact TrimsOnly.refl _
  · exact TrimsOnly.reLead _ _

/-- Everything the clearing of one gear fault can do (R37). -/
theorem clearGF (s : State) (n : Fin 4) : ((s.engineAt n).gearFault = false → s.clearGearFault n = s) ∧
   ((s.engineAt n).gearFault = true →
     (∀ m : Fin 4, (s.clearGearFault n).engineAt m = { s.engineAt m with gearFault := if n = m then false else (s.engineAt m).gearFault, member := ((s.clearGearFault n).engineAt m).member, trim := ((s.clearGearFault n).engineAt m).trim })
     ∧ (s.clearGearFault n).sourceOf (11 + n.val) = false
     ∧ (∀ m, m ≠ n → (s.clearGearFault n).sourceOf (11 + m.val) = s.sourceOf (11 + m.val))
     ∧ (s.clearGearFault n).prop.sync = s.prop.sync ∧ s.condsBut (s.clearGearFault n) [11,12,13,14,19]) := by
  constructor
  · intro h; simp [State.clearGearFault, h]
  · intro h
    set m0 := s.modEngine n (fun g => { g with gearFault := false }) with hm0
    set s1 := m0.setSource (11 + n.val) false with hs1
    have e : s.clearGearFault n = s1.reLeadOf n := by simp [State.clearGearFault, h, hs1, hm0]
    have r := TrimsOnly.reLeadOf s1 n
    have p1 : s1.prop = m0.prop := by simp [hs1]
    rw [e]
    refine ⟨fun m => ?_, ?_, fun m hm => ?_, ?_, ?_⟩
    · rw [r.1 m]
      have : s1.engineAt m = m0.engineAt m := by simp [State.engineAt, p1]
      rw [this, hm0, engineAt_mod]
      split <;> simp
    · have h19 := srcOf_keep r.2.2 (10 + n.val) (by omega) (by simp; omega)
      rw [show 11 + n.val = 10 + n.val + 1 by omega, h19, hs1, srcOf_set _ _ (by omega) _ (by omega)]; simp; omega
    · have h19 := srcOf_keep r.2.2 (10 + m.val) (by omega) (by simp; omega)
      have : n.val ≠ m.val := fun h2 => hm (Fin.ext h2.symm)
      rw [show 11 + m.val = 10 + m.val + 1 by omega, h19, hs1, srcOf_set _ _ (by omega) _ (by omega), if_neg (by omega)]
      rfl
    · rw [r.2.1, p1]; rfl
    · refine condsBut_trans (t := s1) ?_ (condsBut_mono r.2.2 (by simp))
      refine condsBut_trans (t := m0) (condsBut_refl _ _) (setSource_condsBut _ _ _ _ ?_)
      have := n.2
      have : n.val = 0 ∨ n.val = 1 ∨ n.val = 2 ∨ n.val = 3 := by omega
      rcases this with h | h | h | h <;> simp [h]

/-- Everything the clearing of all gear faults can do (R37). -/
theorem clearAll_spec (s : State) :
   (∀ m : Fin 4, (s.clearAllGearFaults).engineAt m = { s.engineAt m with gearFault := false, member := ((s.clearAllGearFaults).engineAt m).member, trim := ((s.clearAllGearFaults).engineAt m).trim })
     ∧ (∀ m, (s.engineAt m).gearFault = true → (s.clearAllGearFaults).sourceOf (11 + m.val) = false)
     ∧ ((∀ m : Fin 4, (s.engineAt m).gearFault = false) → s.clearAllGearFaults = s)
     ∧ (s.clearAllGearFaults).prop.sync = s.prop.sync ∧ s.condsBut (s.clearAllGearFaults) [11,12,13,14,19] := by
  -- one step lemma in uniform form
  have step : ∀ (t : State) (n : Fin 4),
     (∀ m : Fin 4, (t.clearGearFault n).engineAt m = { t.engineAt m with gearFault := if n = m then false else (t.engineAt m).gearFault, member := ((t.clearGearFault n).engineAt m).member, trim := ((t.clearGearFault n).engineAt m).trim })
     ∧ ((t.engineAt n).gearFault = true → (t.clearGearFault n).sourceOf (11 + n.val) = false)
     ∧ (∀ m, (m ≠ n ∨ (t.engineAt n).gearFault = false) → (t.clearGearFault n).sourceOf (11 + m.val) = t.sourceOf (11 + m.val))
     ∧ (t.clearGearFault n).prop.sync = t.prop.sync ∧ t.condsBut (t.clearGearFault n) [11,12,13,14,19]
     ∧ ((t.engineAt n).gearFault = false → t.clearGearFault n = t) := by
    intro t n
    have := clearGF t n
    cases hg : (t.engineAt n).gearFault with
    | false =>
      rw [this.1 hg]
      refine ⟨fun m => ?_, by simp, fun _ _ => rfl, rfl, condsBut_refl _ _, fun _ => rfl⟩
      split
      · rename_i h; subst h; conv_lhs => rw [show t.engineAt n = {t.engineAt n with gearFault := (t.engineAt n).gearFault} from rfl, hg]
      · rfl
    | true =>
      have h2 := this.2 hg
      exact ⟨h2.1, fun _ => h2.2.1, fun m hm => h2.2.2.1 m (by simpa using hm), h2.2.2.2.1, h2.2.2.2.2, by simp⟩
  have e : s.clearAllGearFaults = ((((s.clearGearFault 0).clearGearFault 1).clearGearFault 2).clearGearFault 3) := by
    simp [State.clearAllGearFaults, Bank.indices, List.finRange_succ]
  obtain ⟨a1, a2, a3, a4, a5, a6⟩ := step s 0
  set u1 := s.clearGearFault 0
  obtain ⟨b1, b2, b3, b4, b5, b6⟩ := step u1 1
  set u2 := u1.clearGearFault 1
  obtain ⟨c1, c2, c3, c4, c5, c6⟩ := step u2 2
  set u3 := u2.clearGearFault 2
  obtain ⟨d1, d2, d3, d4, d5, d6⟩ := step u3 3
  set u4 := u3.clearGearFault 3
  rw [e]
  have g1 : ∀ m, (u1.engineAt m).gearFault = if (0 : Fin 4) = m then false else (s.engineAt m).gearFault := fun m => by rw [a1 m]
  have g2 : ∀ m, (u2.engineAt m).gearFault = if (1 : Fin 4) = m then false else (u1.engineAt m).gearFault := fun m => by rw [b1 m]
  have g3 : ∀ m, (u3.engineAt m).gearFault = if (2 : Fin 4) = m then false else (u2.engineAt m).gearFault := fun m => by rw [c1 m]
  have g4 : ∀ m, (u4.engineAt m).gearFault = if (3 : Fin 4) = m then false else (u3.engineAt m).gearFault := fun m => by rw [d1 m]
  refine ⟨fun m => ?_, fun m hm => ?_, fun h => ?_, by rw [d4, c4, b4, a4], condsBut_trans (condsBut_trans (condsBut_trans a5 b5) c5) d5⟩
  · have : (u4.engineAt m).gearFault = false := by
      rw [g4, g3, g2, g1]; fin_cases m <;> simp
    have h2 : u4.engineAt m = { s.engineAt m with gearFault := (u4.engineAt m).gearFault, member := (u4.engineAt m).member, trim := (u4.engineAt m).trim } := by
      rw [d1 m, c1 m, b1 m, a1 m]
    rw [this] at h2; exact h2
  · have key : m = 0 ∨ m = 1 ∨ m = 2 ∨ m = 3 := by fin_cases m <;> simp
    rcases key with rfl | rfl | rfl | rfl
    · rw [d3, c3, b3, a2 hm] <;> simp
    · have : (u1.engineAt 1).gearFault = true := by rw [g1]; simpa using hm
      rw [d3, c3, b2 this] <;> simp
    · have : (u2.engineAt 2).gearFault = true := by rw [g2, g1]; simpa using hm
      rw [d3, c2 this]; simp
    · have : (u3.engineAt 3).gearFault = true := by rw [g3, g2, g1]; simpa using hm
      exact d2 this
  · have x1 := a6 (h 0)
    have x2 : u2 = u1 := b6 (by rw [x1]; exact h 1)
    have x3 : u3 = u2 := c6 (by rw [x2, x1]; exact h 2)
    have x4 : u4 = u3 := d6 (by rw [x3, x2, x1]; exact h 3)
    rw [x4, x3, x2, x1]

/-- A change of each engine of a list. -/
theorem fold_mod (l : List (Fin 4)) (f : Fin 4 → Engine → Engine) (s : State) (hn : l.Nodup) :
    (∀ m, (l.foldl (fun t n => t.modEngine n (f n)) s).engineAt m = if m ∈ l then f m (s.engineAt m) else s.engineAt m)
    ∧ (l.foldl (fun t n => t.modEngine n (f n)) s).prop.sync = s.prop.sync
    ∧ (l.foldl (fun t n => t.modEngine n (f n)) s).cond = s.cond := by
  induction l generalizing s with
  | nil => simp
  | cons x xs ih =>
    simp only [List.nodup_cons] at hn
    obtain ⟨i1, i2, i3⟩ := ih (s.modEngine x (f x)) hn.2
    refine ⟨fun m => ?_, i2, i3⟩
    simp only [List.foldl_cons]
    rw [i1 m, engineAt_mod]
    by_cases h : x = m
    · subst h; simp [hn.1]
    · have : ¬ m = x := fun h2 => h h2.symm
      simp [h, this]

/-- A group names no engine twice. -/
theorem group_nodup (s : State) (c) : (s.group c).Nodup := by
  unfold State.group Bank.indices
  exact (List.nodup_finRange 4).filter _

/-- A group is in engine order. -/
theorem group_sorted (s : State) (c) : (s.group c).Pairwise (· < ·) := by
  unfold State.group Bank.indices
  exact (List.pairwise_lt_finRange 4).filter _

/-- The lead is the engine R46 names. -/
theorem find_lead (s : State) (c m : Fin 4) : ((s.group c).find? fun n => s.eligible n) = some m ↔ s.leadShouldBe c m := by
  unfold State.leadShouldBe
  rw [List.find?_eq_some_iff_append]
  have hs := group_sorted s c
  constructor
  · rintro ⟨he, as, bs, hl, ha⟩
    rw [hl] at hs ⊢
    refine ⟨by simp, he, fun k hk hke => ?_⟩
    simp at hk
    rcases hk with hk | rfl | hk
    · have := ha k hk; simp [hke] at this
    · exact le_refl _
    · have := (List.pairwise_append.1 hs).2.1
      have := (List.pairwise_cons.1 this).1 k hk
      exact le_of_lt this
  · rintro ⟨hm, he, hmin⟩
    obtain ⟨as, bs, hl⟩ := List.append_of_mem hm
    refine ⟨he, as, bs, hl, fun a ha => ?_⟩
    rw [hl] at hs
    have hlt : a < m := (List.pairwise_append.1 hs).2.2 a ha m (by simp)
    by_contra hc
    have h2 := hmin a (by rw [hl]; simp [ha]) (by simpa using hc)
    exact absurd hlt (by simpa using h2)

/-! ### Values in use and command -/

/-- Clamping as a maximum and a minimum. -/
theorem clamp_eq (l x : Int) : clampTo l x = max (-l) (min l x) := rfl

/-- The match test of R5. -/
theorem matchTest_iff (s : State) (n : Fin 4) : s.matchTest n = true ↔ ∃ f, s.passesMatch n f := by
  unfold State.matchTest State.passesMatch
  cases hf : (s.stationAt n).frame with
  | none => simp
  | some f =>
    simp [Bank.indices, List.all_eq_true]
    exact Iff.rfl

/-- Taking an event does not move the match test. -/
theorem took_matchTest (s : State) (e n c) (m) : (s.tookEvent e n c).matchTest m = s.matchTest m := by
  have : ((s.tookEvent e n c).stationAt m).frame = (s.stationAt m).frame := by
    simp [State.tookEvent, State.stationAt, State.modStation, upd_get]
    split
    · rename_i h; rfl
    · rfl
  unfold State.matchTest; rw [this]; rfl

/-- The values in use follow a holder's frame (R15). -/
theorem apply_follows (v : ValuesInUse) (f) : v.follows (v.apply f) f := by
  refine ⟨fun c => ?_, rfl, rfl, rfl⟩
  simp [ValuesInUse.apply]; rfl

/-- Everything the taking of a holder's frame can do (R15, R16). -/
theorem takeValues_spec (s : State) (f : HelmFrame) :
    (s.takeValues f).station = { s.station with
      inUse := s.station.inUse.apply f
      invalidTimer := Vector.ofFn fun c : Fin 4 =>
        invalidAfter s.now f.valid[c.val] s.station.leverFault[c.val] s.station.invalidTimer[c.val]
      leverFault := Vector.ofFn fun c : Fin 4 => !f.valid[c.val] && s.station.leverFault[c.val] }
    ∧ s.condsBut (s.takeValues f) [6]
    ∧ (s.takeValues f).sourceOf 6 = (s.takeValues f).station.leverFault.any id := by
  refine ⟨by simp [State.takeValues], setSource_condsBut _ _ _ _ (by simp), ?_⟩
  simp only [State.takeValues, State.evalLeverFault]
  rw [srcOf_set _ _ (by omega) _ (by omega)]; simp

/-- Everything the fall of the values in use to 0 can do. -/
theorem zeroValues_spec (s : State) : (s.zeroValues).station = { s.station with inUse := {}, invalidTimer := Vector.replicate 4 none, leverFault := Vector.replicate 4 false } ∧ (s.zeroValues).sourceOf 6 = false ∧ s.condsBut s.zeroValues [6] := by
  refine ⟨by simp [State.zeroValues, State.clearLevers], ?_, ?_⟩
  · simp only [State.zeroValues, State.evalLeverFault]
    rw [srcOf_set _ _ (by omega) _ (by omega)]; simp [State.clearLevers, Vector.any_eq]
  · exact setSource_condsBut _ _ _ _ (by simp)

/-- What the lead of a channel is read from: the engine records and the tables. Two states that agree in these
re-evaluate it alike. -/
def SameLead (s t : State) : Prop := t.prop = s.prop ∧ t.store = s.store

/-- A fold whose steps keep the agreement keeps it. -/
theorem SameLead.foldl {α : Type} (f g : State → α → State) (h : ∀ s t a, SameLead s t → SameLead (f s a) (g t a))
    (l : List α) (s t : State) (hs : SameLead s t) : SameLead (l.foldl f s) (l.foldl g t) := by
  induction l generalizing s t with
  | nil => exact hs
  | cons a l ih => exact ih _ _ (h s t a hs)

/-- One engine changed alike in both. -/
theorem SameLead.mod {s t : State} (h : SameLead s t) (n : Fin 4) (f : Engine → Engine) :
    SameLead (s.modEngine n f) (t.modEngine n f) := by
  refine ⟨?_, h.2⟩
  change ({ t.prop with engines := Bank.upd t.prop.engines n f } : PropUnit)
    = { s.prop with engines := Bank.upd s.prop.engines n f }
  rw [h.1]

/-- Conditions are not read. -/
theorem SameLead.source {s t : State} (h : SameLead s t) (c d : Nat) (x y : Bool) :
    SameLead (s.setSource c x) (t.setSource d y) := by
  constructor <;> simp [h.1, h.2]

/-- The re-evaluation of a lead, in both (R46). -/
theorem SameLead.reLeadOf {s t : State} (h : SameLead s t) (n : Fin 4) : SameLead (s.reLeadOf n) (t.reLeadOf n) := by
  have engine (m : Fin 4) : t.engine? m = s.engine? m := by
    unfold State.engine? State.tableImage State.slot
    rw [h.2]
  have record (m : Fin 4) : t.engineAt m = s.engineAt m := by
    unfold State.engineAt
    rw [h.1]
  have group (c : Fin 4) : t.group c = s.group c := by
    unfold State.group
    simp only [engine]
  have able (m : Fin 4) : t.eligible m = s.eligible m := by
    unfold State.eligible
    simp only [engine, record]
  have lead (c : Fin 4) : t.leadOf c = s.leadOf c := by
    unfold State.leadOf
    simp only [group, record]
  have reLead (c : Fin 4) : SameLead (s.reLead c) (t.reLead c) := by
    unfold State.reLead
    rw [h.1, group, lead]
    simp only [able]
    split
    · split
      · exact h
      · unfold State.evalSyncDropped
        refine SameLead.source ?_ _ _ _ _
        unfold State.changeLead
        simp only [able, group]
        refine SameLead.foldl _ _ (fun u v a huv => ?_) _ _ _ h
        split
        · exact huv.mod _ _
        · split
          · exact huv
          · exact huv.mod _ _
    · exact h
  unfold State.reLeadOf
  rw [engine]
  split
  · exact h
  · exact reLead _

/-- The clearing of all gear faults, in both (R37). -/
theorem SameLead.clearAll {s t : State} (h : SameLead s t) :
    SameLead s.clearAllGearFaults t.clearAllGearFaults := by
  unfold State.clearAllGearFaults
  refine SameLead.foldl _ _ (fun u v a huv => ?_) _ _ _ h
  have record : v.engineAt a = u.engineAt a := by
    unfold State.engineAt
    rw [huv.1]
  unfold State.clearGearFault
  rw [record]
  split
  · exact ((huv.mod _ _).source _ _ _ _).reLeadOf _
  · exact huv

/-- The steps of becoming holder, put together. -/
theorem becomeHolder_core (s s1c s2a s2 s3 t : State) (n : Fin 4) (f : HelmFrame)
    (hh : s1c.station.holder = some n ∧ s1c.station.requester = none ∧ s1c.station.transferTimer = none ∧ s1c.station.orphanTimer = none ∧ s1c.station.followUpNext = s.station.followUpNext ∧ s1c.station.inUse = s.station.inUse ∧ s1c.now = s.now)
    (hlf : s1c.station.leverFault = Vector.replicate 4 false)
    (hit : s1c.station.invalidTimer = Vector.replicate 4 none)
    (hst : s1c.station.stations = s.station.stations)
    (hc1 : s1c.cond = s.cond) (hp1 : s1c.prop = s.prop)
    (e2a : s2a = s1c.takeValues f) (e2 : s2 = s2a.setSource 5 false) (e3 : s3 = s2.clearAllGearFaults)
    (et : t = s3.setResult n .accepted)
    (hs2 : s2.store = s.store)
    (fr : s.sameBut t [.station, .prop, .cond]) : s.becameHolder t n f := by
  have tv := takeValues_spec s1c f
  rw [← e2a] at tv
  have cc := clearAll_spec s2
  rw [← e3] at cc
  obtain ⟨c1, c2, c3, c4, c5⟩ := cc
  have en3 : ∀ m, t.engineAt m = s3.engineAt m := fun m => by rw [et]; rfl
  have so3 : ∀ m, t.sourceOf m = s3.sourceOf m := fun m => by rw [et]; rfl
  have pr3 : t.prop = s3.prop := by rw [et]; rfl
  have co3 : t.cond = s3.cond := by rw [et]; rfl
  have p2 : s2.prop = s.prop := by
    have : s2a.prop = s1c.prop := by simp [e2a]
    simp [e2, this, hp1]
  have st2 : s2.station = s2a.station := by simp [e2]
  have st3 : s3.station = s2.station := by simp [e3]
  have stt : t.station = { s3.station with stations := Bank.upd s3.station.stations n fun x => { x with result := .accepted } } := by rw [et]; rfl
  have cb2 : s.condsBut s2 [5,6] := by
    refine condsBut_trans (t := s2a) ?_ (by rw [e2]; exact setSource_condsBut _ _ _ _ (by simp))
    exact condsBut_trans (condsBut_of_cond hc1 _) (condsBut_mono (l := [6]) tv.2.1 (by simp))
  have s25 : s2.sourceOf 5 = false := by
    rw [e2, srcOf_set _ _ (by omega) _ (by omega)]; simp
  have s26 : s2.sourceOf 6 = false := by
    rw [e2, srcOf_set _ _ (by omega) _ (by omega), if_neg (by omega), tv.2.2, tv.1]
    simp [hlf, Vector.any_eq]
  have en2 : ∀ m, s2.engineAt m = s.engineAt m := fun m => by simp [State.engineAt, p2]
  have led : t.prop = (s.clearAllGearFaults).prop := by
    rw [pr3, e3]
    exact (SameLead.clearAll (s := s) (t := s2) ⟨p2, hs2⟩).1
  have stn := stt
  rw [st3, st2, tv.1] at stn
  clear e2 e2a e3 et
  unfold State.becameHolder
  rw [stn]
  refine ⟨hh.1, hh.2.1, hh.2.2.1, hh.2.2.2.1, hh.2.2.2.2.1, ?_, fun c => ?_, fun c => ?_, ?_, ?_, ?_, fun m => ?_, fun m hm => ?_, fun h => ?_, led, ?_, ?_, ?_⟩
  · have := apply_follows s1c.station.inUse f
    rw [hh.2.2.2.2.2.1] at this ⊢; exact this
  · simp [hlf, hit, invalidAfter, hh.2.2.2.2.2.2]; rfl
  · simp [hlf]
  · simp [hst]
  · have := srcOf_keep c5 4 (by omega) (by simp)
    rw [so3]; exact this.trans s25
  · have := srcOf_keep c5 5 (by omega) (by simp)
    rw [so3]; exact this.trans s26
  · have := c1 m
    rw [en2] at this; rw [en3]; exact this
  · rw [so3]; exact c2 m (by rw [en2]; exact hm)
  · have h3 := c3 (fun m => by rw [en2]; exact h m)
    rw [pr3]
    exact ⟨(congrArg State.prop h3).trans p2, condsBut_trans cb2 (condsBut_of_cond (co3.trans (congrArg State.cond h3)) _)⟩
  · rw [pr3, c4, p2]
  · exact condsBut_trans (condsBut_mono cb2 (by simp)) (condsBut_trans (condsBut_mono c5 (by simp)) (condsBut_of_cond co3 _))
  · exact fr

/-- Everything becoming holder can do (R6 to R8, R12, R13). -/
theorem becomeHolder_spec (s : State) (n : Fin 4) (f : HelmFrame) (hf : (s.stationAt n).frame = some f) :
    s.becameHolder (s.becomeHolder n) n f := by
  have fr : s.sameBut (s.becomeHolder n) [.station, .prop, .cond] := by
    intro p hp
    have := State.becomeHolder_frame s n
    cases p <;> simp [State.agree] at hp ⊢
  refine becomeHolder_core s (((((s.setHolder (some n)).setRequest none none).setOrphan none)).clearLevers) _ _ _ _ n f ⟨rfl, rfl, rfl, rfl, rfl, rfl, rfl⟩ rfl rfl rfl rfl rfl rfl rfl rfl ?_
    (by simp) fr
  have : (((((((s.setHolder (some n)).setRequest none none).setOrphan none)).clearLevers)).stationAt n).frame = some f := hf
  simp only [State.becomeHolder, State.applyLastFrame, this]

/-- A station's record after a valid helm frame (R2, R3). -/
theorem hear_eq (now f) (x : Station) : Station.hear now f x = x.heardWith f now := by
  unfold Station.hear Station.heardWith
  by_cases hp : x.presence = .present <;> by_cases hg : 1 ≤ x.good <;> simp [hp, hg, satSucc, Config.silenceTime]

/-! ### Frames that answer an earlier frame, retained writes -/

/-- A node's frame has come too late for its exchange exactly where it does not answer the newest frame. -/
theorem answersEarlier_iff (sent : List Frame) (answers : Option Nat) :
    answersEarlier sent answers = true ↔ ¬ answersNewest sent answers := by
  unfold answersEarlier answersNewest
  cases answers <;> simp

/-- A write of an item to the retained store, in one equation (R187). -/
theorem writeRetained_eq (s : State) (i : StoreItem) (f : Retained → Retained) :
    s.writeRetained i f = s.withStore (s.store.wrote s.readBack i f) := by
  unfold State.writeRetained TableStore.wrote
  by_cases h : i.region ∈ s.readBack.failed <;>
    simp [h, State.readBackRegion, State.countCorrected, correctedWords, TableStore.correctedBy, State.withStore, bump, satSucc]

/-- An account save, in one equation (R144, R187). -/
theorem accountSave_eq (s : State) :
    s.accountSave = s.withStore (s.store.saved s.readBack s.fuelRegion s.transfer.history s.transfer.counter
      s.coup.mode) := by
  have again (x : TableStore) (i : StoreItem) :
      (s.withStore x).writeOwed i = s.withStore (if i ∈ x.owed then x.wrote s.readBack i (s.storeItem i) else x) := by
    simp only [State.writeOwed, State.withStore_store, writeRetained_eq]
    split <;> rfl
  unfold State.accountSave TableStore.saved
  rw [writeRetained_eq, again, again, again]
  rfl

/-! ### Fields of frames and records -/

/-- The bytes of a number are as many as its width. -/
@[simp] theorem length_beBytes (k n : Nat) : (beBytes k n).length = k := by
  induction k generalizing n with
  | zero => rfl
  | succ k ih => simp [beBytes, ih]

/-- Reading one more byte (section 11.2). -/
theorem bigEndian_concat (b : Bytes) (x : Byte) : bigEndian (b ++ [x]) = 256 * bigEndian b + x.toNat := by
  simp [bigEndian]

/-- A number written in `k` bytes is read back modulo 256^k (section 11.2). -/
theorem bigEndian_beBytes (k n : Nat) : bigEndian (beBytes k n) = n % 256 ^ k := by
  induction k generalizing n with
  | zero => simp [beBytes, bigEndian, Nat.mod_one]
  | succ k ih =>
    have h : (byte n).toNat = n % 256 := by simp [byte]
    rw [beBytes, bigEndian_concat, ih, h, Nat.pow_succ', Nat.mod_mul, Nat.add_comm]

/-- Runs of fields one after the other carry both lists. -/
theorem carries_append {a b : Bytes} {l m : List (Nat × Int)} (ha : carries a l) (hb : carries b m) :
    carries (a ++ b) (l ++ m) := by
  induction l generalizing a with
  | nil => simpa [show a = [] from ha] using hb
  | cons p l ih =>
    obtain ⟨h1, h2, h3⟩ := ha
    refine ⟨by simp; omega, ?_, ?_⟩
    · rwa [List.take_append_of_le_length h1]
    · rw [List.drop_append_of_le_length h1]
      exact ih h3

/-- A number in `k` bytes is one field of width `k`. -/
theorem carries_beBytes (k n : Nat) : carries (beBytes k n) [(k, (n : Int))] := by
  refine ⟨by simp, ?_, by simp [carries]⟩
  rw [List.take_of_length_le (by simp), bigEndian_beBytes]
  push_cast
  rfl

/-- A signed quantity in `k` bytes is one field of width `k`. -/
theorem carries_beInt (k : Nat) (x : Int) : carries (beInt k x) [(k, x)] := by
  have pos : ((256 ^ k : Nat) : Int) ≠ 0 := by positivity
  refine ⟨by simp [beInt], ?_, by simp [carries, beInt]⟩
  rw [List.take_of_length_le (by simp [beInt]), beInt, bigEndian_beBytes]
  rw [Int.natCast_mod, Int.toNat_of_nonneg (Int.emod_nonneg x pos), Int.emod_emod_of_dvd x (dvd_refl _)]

end Sys2Proof.Machine
end

