-- ==== Sys2Proof/WellFormed.lean ====
section
/-! DEFINITION. Well-formed commands: operands that their rows and the frames of chapter 11 can carry. A
meaning is defined for every operand whatever it is; these checks say which operands the manual's words are
about. -/

namespace Sys2Proof

open Sys2Proof.Machine

/-- A byte. -/
def isByte (n : Nat) : Bool := n < 256

/-- A number 1 to `n`. -/
def isIndex (n k : Nat) : Bool := 1 ≤ k && k ≤ n

/-- A region that the retained store has (section 10.6). -/
def Region.wf : Region → Bool
  | .table id => isIndex 13 id
  | .fuel => true
  | .transfer => true
  | .splitMode => true

/-- A step's circumstances name regions that the retained store has, and frames of the part by their numbers,
which begin at 1. -/
def Env.wf (e : Env) : Bool :=
  (e.readBack.failed ++ e.readBack.corrected).all Region.wf && e.answers.all fun k => 1 ≤ k

/-- A payload fits a frame: 0 to 28 bytes (section 11.2). -/
def payloadFits (b : Bytes) : Bool := b.length ≤ 28

/-- A frame's addresses and payload. -/
def frameFits (dst src : Nat) (b : Bytes) : Bool := isByte dst && isByte src && payloadFits b

/-- An event from a station: its address 0x01–0x04 and a count 0–255. -/
def eventFits (station count : Nat) : Bool := isIndex 4 station && isByte count

/-- A management request: its sender, tag, and fields after the kind and the tag. -/
def requestFits (station tag : Nat) (fields : Bytes) : Bool :=
  isIndex 4 station && isByte tag && fields.length ≤ 26

/-- The ADDR pins give 0 to 3 (R189). -/
def Straps.wf (x : Straps) : Bool := x.addr < 4

/-- The items the ECC can name at a cold start (R186). -/
def ColdRead.wf (x : ColdRead) : Bool :=
  x.tables.all (isIndex 13) && x.accounts.all (isIndex 6) && x.books.all (isIndex 12)
    && x.history.all (isIndex 8)

/-- Whether a block takes frames of a kind on a line (R192). -/
def kindTaken (line : Line) (kind : Nat) : Bool :=
  match line with
  | .station => kind == 0x01 || kind == 0x02
  | .machinery => isReportKind kind
  | .tow => kind == 0x21 || kind == 0x23

/-- A well-formed command. -/
def Instr.wf : Instr → Bool
  | .coldStart e straps found => e.wf && straps.wf && found.wf
  | .controlRestart e => e.wf
  | .helmFrame e dst src b => e.wf && frameFits dst src b
  | .noneEvent e st count code =>
    e.wf && eventFits st count && isByte code
      && (eventKindOf code = .none || eventKindOf code = .unknown)
  | .take e st count => e.wf && eventFits st count
  | .release e st count => e.wf && eventFits st count
  | .refuse e st count => e.wf && eventFits st count
  | .seize e st count => e.wf && eventFits st count
  | .syncOn e st count c => e.wf && eventFits st count && isIndex 4 c
  | .syncOff e st count c => e.wf && eventFits st count && isIndex 4 c
  | .ack e st count => e.wf && eventFits st count
  | .split e st count => e.wf && eventFits st count
  | .abortSplit e st count => e.wf && eventFits st count
  | .recouple e st count => e.wf && eventFits st count
  | .abortRejoin e st count => e.wf && eventFits st count
  | .transferStop e st count => e.wf && eventFits st count
  | .silenceTimerExpiry e st => e.wf && isIndex 4 st
  | .transferTimerExpiry e => e.wf
  | .orphanTimerExpiry e => e.wf
  | .leverInvalidTimerExpiry e c => e.wf && isIndex 4 c
  | .followUpFrame e _ => e.wf
  | .stationLineIdleGap e => e.wf
  | .transmitReadbackMismatch e => e.wf
  | .lineCheckFailure e _ run => e.wf && !run.isEmpty
  | .cycleBoundary e => e.wf
  | .machineryWindowClose e => e.wf
  | .machineryReport e dst src kind b => e.wf && frameFits dst src b && isByte kind
  | .dwellTimerExpiry e n => e.wf && isIndex 4 n
  | .confirmTimerExpiry e n => e.wf && isIndex 4 n
  | .pollCycleStart e => e.wf
  | .pollWindowClose e => e.wf
  | .pollReply e dst src b => e.wf && frameFits dst src b
  | .accessAnswer e dst src b => e.wf && frameFits dst src b
  | .nodeAccessTimeout e => e.wf
  | .rejoinTimerExpiry e => e.wf
  | .startConfirmTimerExpiry e => e.wf
  | .trailerTimerExpiry e => e.wf
  | .accountSaveTimer e => e.wf
  | .managementFrame e dst src b => e.wf && frameFits dst src b
  | .unknownRequest e st kind tag b => e.wf && requestFits st tag b && isByte kind && !kindKnown kind
  | .loadBegin e st tag b => e.wf && requestFits st tag b
  | .loadData e st tag b => e.wf && requestFits st tag b
  | .loadEnd e st tag b => e.wf && requestFits st tag b
  | .readTable e st tag b => e.wf && requestFits st tag b
  | .readState e st tag b => e.wf && requestFits st tag b
  | .nextAlarm e st tag b => e.wf && requestFits st tag b
  | .startTransfer e st tag b => e.wf && requestFits st tag b
  | .abortTransfer e st tag b => e.wf && requestFits st tag b
  | .bunkerReceipt e st tag b => e.wf && requestFits st tag b
  | .setTankBook e st tag b => e.wf && requestFits st tag b
  | .zeroConsumer e st tag b => e.wf && requestFits st tag b
  | .towNodeAccess e st tag b => e.wf && requestFits st tag b
  | .clearCounters e st tag b => e.wf && requestFits st tag b
  | .restart e st tag b => e.wf && requestFits st tag b
  | .loadInactivityTimeout e => e.wf
  | .scrubCheck e _ => e.wf
  | .discardedFrame e line dst src kind => e.wf && frameFits dst src [] && isByte kind && !kindTaken line kind

end Sys2Proof
end

