-- ==== Sys2Proof/Laws/PerInstr.lean ====
section
/-! SUPPORT. Laws stated of every command as syntax, one lemma for each constructor. -/

namespace Sys2Proof.Laws

/-- A well-formed command's circumstances name regions that the retained store has, and frames of the part by
numbers from 1. -/
def WellFormedEnv.Statement (i : Instr) : Prop :=
  i.wf = true →
    (∀ r ∈ i.env.readBack.failed ++ i.env.readBack.corrected, r.wf = true) ∧ ∀ k : Nat, i.env.answers = some k → 1 ≤ k

/-- What makes a command's circumstances well formed. -/
theorem WellFormedEnv.of_env {e : Env} (h : e.wf = true) :
    (∀ r ∈ e.readBack.failed ++ e.readBack.corrected, r.wf = true) ∧ ∀ k : Nat, e.answers = some k → 1 ≤ k := by
  simp only [Env.wf, Bool.and_eq_true, List.all_eq_true] at h
  exact ⟨h.1, fun k hk => by simpa [hk] using h.2⟩

/-- The left side of a conjunction that holds. -/
theorem WellFormedEnv.left {a b : Bool} (h : (a && b) = true) : a = true := by
  cases a
  · exact h
  · rfl

theorem WellFormedEnv.coldStart (e : Env) (straps : Straps) (found : ColdRead) :
    WellFormedEnv.Statement (.coldStart e straps found) :=
  fun h => WellFormedEnv.of_env (WellFormedEnv.left (WellFormedEnv.left h))

theorem WellFormedEnv.controlRestart (e : Env) :
    WellFormedEnv.Statement (.controlRestart e) :=
  fun h => WellFormedEnv.of_env h

theorem WellFormedEnv.helmFrame (e : Env) (dst src : Nat) (payload : Bytes) :
    WellFormedEnv.Statement (.helmFrame e dst src payload) :=
  fun h => WellFormedEnv.of_env (WellFormedEnv.left h)

theorem WellFormedEnv.noneEvent (e : Env) (station count code : Nat) :
    WellFormedEnv.Statement (.noneEvent e station count code) :=
  fun h => WellFormedEnv.of_env (WellFormedEnv.left (WellFormedEnv.left (WellFormedEnv.left h)))

theorem WellFormedEnv.take (e : Env) (station count : Nat) :
    WellFormedEnv.Statement (.take e station count) :=
  fun h => WellFormedEnv.of_env (WellFormedEnv.left h)

theorem WellFormedEnv.release (e : Env) (station count : Nat) :
    WellFormedEnv.Statement (.release e station count) :=
  fun h => WellFormedEnv.of_env (WellFormedEnv.left h)

theorem WellFormedEnv.refuse (e : Env) (station count : Nat) :
    WellFormedEnv.Statement (.refuse e station count) :=
  fun h => WellFormedEnv.of_env (WellFormedEnv.left h)

theorem WellFormedEnv.seize (e : Env) (station count : Nat) :
    WellFormedEnv.Statement (.seize e station count) :=
  fun h => WellFormedEnv.of_env (WellFormedEnv.left h)

theorem WellFormedEnv.syncOn (e : Env) (station count channel : Nat) :
    WellFormedEnv.Statement (.syncOn e station count channel) :=
  fun h => WellFormedEnv.of_env (WellFormedEnv.left (WellFormedEnv.left h))

theorem WellFormedEnv.syncOff (e : Env) (station count channel : Nat) :
    WellFormedEnv.Statement (.syncOff e station count channel) :=
  fun h => WellFormedEnv.of_env (WellFormedEnv.left (WellFormedEnv.left h))

theorem WellFormedEnv.ack (e : Env) (station count : Nat) :
    WellFormedEnv.Statement (.ack e station count) :=
  fun h => WellFormedEnv.of_env (WellFormedEnv.left h)

theorem WellFormedEnv.split (e : Env) (station count : Nat) :
    WellFormedEnv.Statement (.split e station count) :=
  fun h => WellFormedEnv.of_env (WellFormedEnv.left h)

theorem WellFormedEnv.abortSplit (e : Env) (station count : Nat) :
    WellFormedEnv.Statement (.abortSplit e station count) :=
  fun h => WellFormedEnv.of_env (WellFormedEnv.left h)

theorem WellFormedEnv.recouple (e : Env) (station count : Nat) :
    WellFormedEnv.Statement (.recouple e station count) :=
  fun h => WellFormedEnv.of_env (WellFormedEnv.left h)

theorem WellFormedEnv.abortRejoin (e : Env) (station count : Nat) :
    WellFormedEnv.Statement (.abortRejoin e station count) :=
  fun h => WellFormedEnv.of_env (WellFormedEnv.left h)

theorem WellFormedEnv.transferStop (e : Env) (station count : Nat) :
    WellFormedEnv.Statement (.transferStop e station count) :=
  fun h => WellFormedEnv.of_env (WellFormedEnv.left h)

theorem WellFormedEnv.silenceTimerExpiry (e : Env) (station : Nat) :
    WellFormedEnv.Statement (.silenceTimerExpiry e station) :=
  fun h => WellFormedEnv.of_env (WellFormedEnv.left h)

theorem WellFormedEnv.transferTimerExpiry (e : Env) :
    WellFormedEnv.Statement (.transferTimerExpiry e) :=
  fun h => WellFormedEnv.of_env h

theorem WellFormedEnv.orphanTimerExpiry (e : Env) :
    WellFormedEnv.Statement (.orphanTimerExpiry e) :=
  fun h => WellFormedEnv.of_env h

theorem WellFormedEnv.leverInvalidTimerExpiry (e : Env) (channel : Nat) :
    WellFormedEnv.Statement (.leverInvalidTimerExpiry e channel) :=
  fun h => WellFormedEnv.of_env (WellFormedEnv.left h)

theorem WellFormedEnv.followUpFrame (e : Env) (lineFree : Bool) :
    WellFormedEnv.Statement (.followUpFrame e lineFree) :=
  fun h => WellFormedEnv.of_env h

theorem WellFormedEnv.stationLineIdleGap (e : Env) :
    WellFormedEnv.Statement (.stationLineIdleGap e) :=
  fun h => WellFormedEnv.of_env h

theorem WellFormedEnv.transmitReadbackMismatch (e : Env) :
    WellFormedEnv.Statement (.transmitReadbackMismatch e) :=
  fun h => WellFormedEnv.of_env h

theorem WellFormedEnv.lineCheckFailure (e : Env) (line : Line) (run : List RxByte) :
    WellFormedEnv.Statement (.lineCheckFailure e line run) :=
  fun h => WellFormedEnv.of_env (WellFormedEnv.left h)

theorem WellFormedEnv.cycleBoundary (e : Env) :
    WellFormedEnv.Statement (.cycleBoundary e) :=
  fun h => WellFormedEnv.of_env h

theorem WellFormedEnv.machineryWindowClose (e : Env) :
    WellFormedEnv.Statement (.machineryWindowClose e) :=
  fun h => WellFormedEnv.of_env h

theorem WellFormedEnv.machineryReport (e : Env) (dst src kind : Nat) (payload : Bytes) :
    WellFormedEnv.Statement (.machineryReport e dst src kind payload) :=
  fun h => WellFormedEnv.of_env (WellFormedEnv.left (WellFormedEnv.left h))

theorem WellFormedEnv.dwellTimerExpiry (e : Env) (engine : Nat) :
    WellFormedEnv.Statement (.dwellTimerExpiry e engine) :=
  fun h => WellFormedEnv.of_env (WellFormedEnv.left h)

theorem WellFormedEnv.confirmTimerExpiry (e : Env) (engine : Nat) :
    WellFormedEnv.Statement (.confirmTimerExpiry e engine) :=
  fun h => WellFormedEnv.of_env (WellFormedEnv.left h)

theorem WellFormedEnv.pollCycleStart (e : Env) :
    WellFormedEnv.Statement (.pollCycleStart e) :=
  fun h => WellFormedEnv.of_env h

theorem WellFormedEnv.pollWindowClose (e : Env) :
    WellFormedEnv.Statement (.pollWindowClose e) :=
  fun h => WellFormedEnv.of_env h

theorem WellFormedEnv.pollReply (e : Env) (dst src : Nat) (payload : Bytes) :
    WellFormedEnv.Statement (.pollReply e dst src payload) :=
  fun h => WellFormedEnv.of_env (WellFormedEnv.left h)

theorem WellFormedEnv.accessAnswer (e : Env) (dst src : Nat) (payload : Bytes) :
    WellFormedEnv.Statement (.accessAnswer e dst src payload) :=
  fun h => WellFormedEnv.of_env (WellFormedEnv.left h)

theorem WellFormedEnv.nodeAccessTimeout (e : Env) :
    WellFormedEnv.Statement (.nodeAccessTimeout e) :=
  fun h => WellFormedEnv.of_env h

theorem WellFormedEnv.rejoinTimerExpiry (e : Env) :
    WellFormedEnv.Statement (.rejoinTimerExpiry e) :=
  fun h => WellFormedEnv.of_env h

theorem WellFormedEnv.startConfirmTimerExpiry (e : Env) :
    WellFormedEnv.Statement (.startConfirmTimerExpiry e) :=
  fun h => WellFormedEnv.of_env h

theorem WellFormedEnv.trailerTimerExpiry (e : Env) :
    WellFormedEnv.Statement (.trailerTimerExpiry e) :=
  fun h => WellFormedEnv.of_env h

theorem WellFormedEnv.accountSaveTimer (e : Env) :
    WellFormedEnv.Statement (.accountSaveTimer e) :=
  fun h => WellFormedEnv.of_env h

theorem WellFormedEnv.managementFrame (e : Env) (dst src : Nat) (payload : Bytes) :
    WellFormedEnv.Statement (.managementFrame e dst src payload) :=
  fun h => WellFormedEnv.of_env (WellFormedEnv.left h)

theorem WellFormedEnv.unknownRequest (e : Env) (station kind tag : Nat) (fields : Bytes) :
    WellFormedEnv.Statement (.unknownRequest e station kind tag fields) :=
  fun h => WellFormedEnv.of_env (WellFormedEnv.left (WellFormedEnv.left (WellFormedEnv.left h)))

theorem WellFormedEnv.loadBegin (e : Env) (station tag : Nat) (fields : Bytes) :
    WellFormedEnv.Statement (.loadBegin e station tag fields) :=
  fun h => WellFormedEnv.of_env (WellFormedEnv.left h)

theorem WellFormedEnv.loadData (e : Env) (station tag : Nat) (fields : Bytes) :
    WellFormedEnv.Statement (.loadData e station tag fields) :=
  fun h => WellFormedEnv.of_env (WellFormedEnv.left h)

theorem WellFormedEnv.loadEnd (e : Env) (station tag : Nat) (fields : Bytes) :
    WellFormedEnv.Statement (.loadEnd e station tag fields) :=
  fun h => WellFormedEnv.of_env (WellFormedEnv.left h)

theorem WellFormedEnv.readTable (e : Env) (station tag : Nat) (fields : Bytes) :
    WellFormedEnv.Statement (.readTable e station tag fields) :=
  fun h => WellFormedEnv.of_env (WellFormedEnv.left h)

theorem WellFormedEnv.readState (e : Env) (station tag : Nat) (fields : Bytes) :
    WellFormedEnv.Statement (.readState e station tag fields) :=
  fun h => WellFormedEnv.of_env (WellFormedEnv.left h)

theorem WellFormedEnv.nextAlarm (e : Env) (station tag : Nat) (fields : Bytes) :
    WellFormedEnv.Statement (.nextAlarm e station tag fields) :=
  fun h => WellFormedEnv.of_env (WellFormedEnv.left h)

theorem WellFormedEnv.startTransfer (e : Env) (station tag : Nat) (fields : Bytes) :
    WellFormedEnv.Statement (.startTransfer e station tag fields) :=
  fun h => WellFormedEnv.of_env (WellFormedEnv.left h)

theorem WellFormedEnv.abortTransfer (e : Env) (station tag : Nat) (fields : Bytes) :
    WellFormedEnv.Statement (.abortTransfer e station tag fields) :=
  fun h => WellFormedEnv.of_env (WellFormedEnv.left h)

theorem WellFormedEnv.bunkerReceipt (e : Env) (station tag : Nat) (fields : Bytes) :
    WellFormedEnv.Statement (.bunkerReceipt e station tag fields) :=
  fun h => WellFormedEnv.of_env (WellFormedEnv.left h)

theorem WellFormedEnv.setTankBook (e : Env) (station tag : Nat) (fields : Bytes) :
    WellFormedEnv.Statement (.setTankBook e station tag fields) :=
  fun h => WellFormedEnv.of_env (WellFormedEnv.left h)

theorem WellFormedEnv.zeroConsumer (e : Env) (station tag : Nat) (fields : Bytes) :
    WellFormedEnv.Statement (.zeroConsumer e station tag fields) :=
  fun h => WellFormedEnv.of_env (WellFormedEnv.left h)

theorem WellFormedEnv.towNodeAccess (e : Env) (station tag : Nat) (fields : Bytes) :
    WellFormedEnv.Statement (.towNodeAccess e station tag fields) :=
  fun h => WellFormedEnv.of_env (WellFormedEnv.left h)

theorem WellFormedEnv.clearCounters (e : Env) (station tag : Nat) (fields : Bytes) :
    WellFormedEnv.Statement (.clearCounters e station tag fields) :=
  fun h => WellFormedEnv.of_env (WellFormedEnv.left h)

theorem WellFormedEnv.restart (e : Env) (station tag : Nat) (fields : Bytes) :
    WellFormedEnv.Statement (.restart e station tag fields) :=
  fun h => WellFormedEnv.of_env (WellFormedEnv.left h)

theorem WellFormedEnv.loadInactivityTimeout (e : Env) :
    WellFormedEnv.Statement (.loadInactivityTimeout e) :=
  fun h => WellFormedEnv.of_env h

theorem WellFormedEnv.scrubCheck (e : Env) (found : ScrubRead) :
    WellFormedEnv.Statement (.scrubCheck e found) :=
  fun h => WellFormedEnv.of_env h

theorem WellFormedEnv.discardedFrame (e : Env) (line : Line) (dst src kind : Nat) :
    WellFormedEnv.Statement (.discardedFrame e line dst src kind) :=
  fun h => WellFormedEnv.of_env (WellFormedEnv.left (WellFormedEnv.left (WellFormedEnv.left h)))

end Sys2Proof.Laws
end

