-- ==== Sys2Proof/Laws/Requests.lean ====
section
/-! SUPPORT. What taking a step, serving the request at the head of the queue, answering it and charging an
account do, said once each. -/

namespace Sys2Proof.Machine

/-- A line counter grows by one and stays at 65 535. -/
theorem bump_eq (n : Nat) : bump n = min 65535 (n + 1) := rfl

/-- Taking a step moves the clock and sets the store's faults, and nothing else. -/
theorem State.enter_eq (s : State) (e : Env) :
    s.enter e = { s with now := max s.now e.time, readBack := e.readBack } := rfl

/-- A whole request is named by itself. -/
theorem MgmtRequest.named_of_whole {r : MgmtRequest} (h : r.short = false) : r.named = r := by
  cases r
  simp_all [MgmtRequest.named]

/-- Serving the request at the head of the queue is carrying it out. -/
theorem State.serve_atHead (s : State) (e : Env) (r : MgmtRequest) (f : State → State) (h : s.atHead r)
    (hr : r.short = false) : (s.enter e).serve r f = f (s.enter e) := by
  obtain ⟨h1, h2, h3⟩ := h
  have hs : (s.enter e).store = s.store := rfl
  have hb : (s.enter e).bringIn r = s.enter e := by
    unfold State.bringIn
    rw [if_neg]
    rw [hs]
    cases hq : s.store.queue with
    | nil => simp [hq] at h2
    | cons => simp
  unfold State.serve
  rw [if_neg (by rw [hs, h1]; simp)]
  simp only [hb]
  rw [if_pos ⟨by rw [hs, h2]; simp [MgmtRequest.named_of_whole hr], by rw [hs]; exact h3⟩]

/-- A request that can be served (R177, R178) is carried out. -/
theorem State.request_canServe (s : State) (e : Env) (kind station tag : Nat) (fields : Bytes)
    (g : Option Rights) (f : State → State)
    (h : s.canServe { station := station, kind := kind, tag := tag, fields := fields } g) :
    (s.enter e).request kind station tag fields g f = f (s.enter e) := by
  obtain ⟨h1, h2, h3⟩ := h
  unfold State.request
  rw [State.serve_atHead s e _ _ h1 rfl]
  unfold State.checked
  have hw : (s.enter e).headShort = false := by
    simp [State.headShort, h1.2.1]
  rw [if_neg (by rw [h2, hw]; simp)]
  cases g with
  | none => rfl
  | some x =>
    have : (s.enter e).holdsRight station x = s.holdsRight station x := rfl
    simp only [this]
    rw [if_pos (h3 x rfl)]

/-- Answering the request at the head adds its reply and marks the head answered, and nothing else. -/
theorem State.answerHead_eq (s : State) (r : MgmtRequest) (status : Status) (fields : Bytes) (after : AfterReply)
    (h : s.store.queue.head? = some r) :
    s.answerHead status fields after =
      { s with
        tx := { s.tx with replies := s.tx.replies ++ [r.reply status fields true] }
        store := { s.store with head := .answered after } } := by
  unfold State.answerHead
  cases hq : s.store.queue with
  | nil => simp [hq] at h
  | cons x xs =>
    rw [hq] at h
    simp at h
    subst h
    rfl

/-- Answering the request at the head leaves it answered, in the words of Safety.lean. -/
theorem State.answered_answerHead {s : State} {r : MgmtRequest} (status : Status) (fields : Bytes)
    (after : AfterReply) (h : s.store.queue.head? = some r) :
    s.answered (s.answerHead status fields after) r status fields after := by
  unfold State.answered
  rw [State.answerHead_eq s r status fields after h]

/-- Reading a consumer after one consumer has changed. -/
theorem State.consumerAt_modConsumer (s : State) (n m : Fin 6) (f : Consumer → Consumer) :
    (s.modConsumer n f).consumerAt m = if n = m then f (s.consumerAt m) else s.consumerAt m := by
  simp only [State.consumerAt, State.modConsumer, State.withFuel]
  rw [upd_get]
  by_cases h : n = m
  · simp [h]
  · have : n.val ≠ m.val := fun h2 => h (Fin.ext h2)
    simp [h, this]

/-- A charge moves only its own consumer's total and remainder. -/
theorem State.consumerAt_charge (s : State) (i : Fin 6) (e : ConsumerEntry) (n f : Int) (j : Fin 6) :
    (s.charge i e n f).consumerAt j =
      if i = j then
        { s.consumerAt j with account :=
          { (s.consumerAt j).account with
            total := ((s.charge i e n f).consumerAt j).account.total
            remainder := ((s.charge i e n f).consumerAt j).account.remainder } }
      else s.consumerAt j := by
  have key : ∀ (t : State) (index : Nat) (g : Book → Book), (t.bookOf index g).consumerAt j = t.consumerAt j := by
    intro t index g
    unfold State.bookOf
    split <;> rfl
  have h1 : (s.charge i e n f).consumerAt j = (s.modConsumer i fun c =>
      { c with account :=
        { c.account with
          total := c.account.total + (accumulate e.k (s.consumerAt i).account.remainder n f).1
          remainder := (accumulate e.k (s.consumerAt i).account.remainder n f).2 } }).consumerAt j := by
    unfold State.charge
    dsimp only
    split
    · rfl
    · exact key _ _ _
  rw [h1, State.consumerAt_modConsumer]
  split <;> rfl

/-! ### The load buffer's bytes -/

/-- Writing data that fits keeps the buffer's length. -/
theorem length_overwrite (b : Bytes) (offset : Nat) (data : Bytes) (h : offset + data.length ≤ b.length) :
    (overwrite b offset data).length = b.length := by
  simp [overwrite]
  omega

/-- A byte of the buffer after a write: the data's inside it, the old one outside it. -/
theorem getElem?_overwrite (b : Bytes) (offset : Nat) (data : Bytes) (i : Nat)
    (h : offset + data.length ≤ b.length) :
    (overwrite b offset data)[i]? =
      if offset ≤ i ∧ i < offset + data.length then data[i - offset]? else b[i]? := by
  have ho : min offset b.length = offset := by omega
  unfold overwrite
  rw [List.append_assoc, List.getElem?_append, List.length_take, ho, List.getElem?_take]
  by_cases h1 : i < offset
  · rw [if_pos h1, if_pos h1, if_neg (by omega)]
  · rw [if_neg h1, List.getElem?_append]
    by_cases h2 : i - offset < data.length
    · rw [if_pos h2, if_pos (by omega)]
    · rw [if_neg h2, if_neg (by omega), List.getElem?_drop]
      congr 1
      omega

end Sys2Proof.Machine
end

