-- ==== Sys2Proof/Tests/Scenes.lean ====
section
/-! SUPPORT. What the tests are built from: table images written field by field in the layout of section 11.6,
and small states that differ from the state after reset in the few records a test is about. -/

namespace Sys2Proof.Tests

open Sys2Proof.Machine

/-- Bytes from numbers. -/
def bytes (l : List Nat) : Bytes := l.map byte

def n2 (n : Nat) : List Nat := [n / 256 % 256, n % 256]
def n3 (n : Nat) : List Nat := [n / 65536 % 256, n / 256 % 256, n % 256]
def n4 (n : Nat) : List Nat := n2 (n / 65536) ++ n2 (n % 65536)
def i2 (x : Int) : List Nat := n2 (x % 65536).toNat

/-- A step at time `t` with a healthy retained store. -/
def at_ (t : Moment) : Env := { time := t }

/-- A step at time 0 with a store that takes no write of `r`. -/
def failing (r : Region) : Env := { time := 0, readBack := { failed := [r] } }

/-- The state after a command, `s` itself where there is none. -/
def after (i : Instr) (s : State) : State :=
  match exec i s with
  | .next t => t
  | _ => s

/-- The state after a run of commands, in order. -/
def afterAll (is : List Instr) (s : State) : State := is.foldl (fun s i => after i s) s

/-- `s` with table `id` + 1 VALID and its image `b`. -/
def put (id : Fin 13) (b : Bytes) (s : State) : State :=
  s.modSlot id fun _ => { image := b, crc := crc16 b, valid := true }

/-! ## Table images -/

/-- A present engine of channel 1: idle 600, maxima 1800 and 1500, ramps 60 and 120 rpm/s, dwell 20. -/
def engineRow (node feed : Nat) : List Nat :=
  [1, 1] ++ n2 600 ++ n2 1800 ++ n2 1500 ++ n2 60 ++ n2 120 ++ [20, node, feed]

/-- Table 2: two present engines, sync gain 2. -/
def engineTable : Bytes :=
  bytes ([2] ++ engineRow 1 3 ++ engineRow 2 3 ++ List.replicate 30 0)

def breakpoints (l : List (Nat × Nat)) : List Nat :=
  [l.length] ++ l.flatMap (fun p => n2 p.1 ++ n2 p.2) ++ List.replicate (4 * (8 - l.length)) 0

/-- Table 3: dead band 30 and the curve of section 2.6 on every channel. -/
def curveTable : Bytes :=
  bytes ((List.replicate 4
    ([30] ++ breakpoints [(0, 0), (200, 100), (600, 500), (1000, 1000)] ++ breakpoints [(0, 0), (1000, 1000)])).flatten)

/-- Table 4: MR1 without freeze, FR1 with freeze and interlock engine 1, and BOW. -/
def steeringTable : Bytes :=
  bytes ([1, 0] ++ i2 1000 ++ n2 350 ++ n2 60 ++ [40, 20, 5, 0]
    ++ List.replicate 12 0
    ++ [7, 1] ++ i2 1000 ++ n2 350 ++ n2 60 ++ [40, 20, 7, 1]
    ++ List.replicate 36 0
    ++ [1, 2] ++ i2 1000 ++ n2 450 ++ n2 100 ++ [40, 20, 1, 0])

/-- Table 5: period 50 ms; EXCHANGE slots to both engines, MR1 and FR1, and a CALL to the
gauge node. -/
def slotTable : Bytes :=
  bytes
    [50, 5, 3, 1, 0, 10, 1, 0, 3, 2, 1, 10, 1, 0, 3, 5, 4, 8, 1, 0, 3, 7, 6, 8, 1, 0, 5, 18, 11, 25, 2, 0]

/-- Table 6: three nodes of one channel each, the first a bow node, the first two of cut B. -/
def makeUpTable : Bytes :=
  bytes [3, 1, 1, 1, 25, 1, 2, 1, 2, 17, 1, 3, 2, 1, 1, 1]

/-- Table 7: one coupling on each node, the last two split; rated 2000, slack threshold 150. -/
def couplingTable : Bytes :=
  bytes ([3, 1, 0] ++ n2 2000 ++ n2 150 ++ [2, 16] ++ n2 2000 ++ n2 150 ++ [3, 16] ++ n2 2000 ++ n2 150)

/-- Table 9: consumer 1 fed from tank 3, and tanks 2 (STORAGE), 3 and 5 (DAY), gauged by node 18. -/
def fuelTable : Bytes :=
  bytes ([1, 16, 1] ++ n2 2000 ++ [83] ++ n2 400 ++ [3] ++ List.replicate 45 0
    ++ List.replicate 18 0
    ++ [1] ++ n3 100000 ++ [18, 2] ++ n3 95000 ++ n3 10000 ++ n3 5000 ++ n3 1000
    ++ [3] ++ n3 40000 ++ [18, 1] ++ n3 39000 ++ n3 8000 ++ n3 4000 ++ n3 1000
    ++ List.replicate 18 0
    ++ [3] ++ n3 20000 ++ [18, 3] ++ n3 18000 ++ n3 6000 ++ n3 2000 ++ n3 1000
    ++ List.replicate 126 0)

/-- Table 10: the pair 2 to 5 permitted, no rule enabled, pump K 500, α 70, glitch bound 2000. -/
def transferTable : Bytes :=
  bytes ([1, 2, 5] ++ List.replicate 12 0 ++ n2 500 ++ [70] ++ n2 2000)

/-- Table 11 of classes 1 that hold no cap and show everywhere. -/
def reactionTable : Bytes :=
  bytes ((List.range 45).flatMap fun i => [i + 1, 1, 14, 3, 232, 15])

/-! ## Station scenes -/

/-- A helm frame with every lever at `lever`, all flagged valid but channel 4's where `last` is false. -/
def frame (lever steering : Int) (code count : Nat) (last : Bool := true) : HelmFrame where
  levers := Vector.replicate 4 lever
  valid := #v[true, true, true, last]
  aux := Vector.replicate 4 false
  steering := steering
  flanking := 0
  code := code
  count := count

/-- The same frame as a payload. -/
def helm (lever steering : Int) (code count : Nat) : Bytes :=
  bytes (i2 lever ++ i2 lever ++ i2 lever ++ i2 lever ++ [15] ++ i2 steering ++ [0, 0, code, count])

/-- Station n + 1 PRESENT with the frame `f` its last. -/
def heard (n : Fin 4) (f : HelmFrame) (s : State) : State :=
  s.modStation n fun x =>
    { x with presence := .present, good := 2, silence := some (sec 1), frame := some f, baseline := some f.count }

/-- Stations 1 and 2 PRESENT with levers and rudder at 0, and no holder. -/
def free : State := heard 0 (frame 0 0 0 5) (heard 1 (frame 0 0 0 5) .reset)

/-- Station 1 holds command. -/
def held : State := free.withStation { free.station with holder := some 0 }

/-- Station 1 holds command and station 2 asks for it. -/
def asked : State :=
  held.withStation { held.station with requester := some 1, transferTimer := some (sec 10) }

/-- Section 1.8.1: station 1 holds with lever 1 at 450 and steering 20; station 3 is at 0. -/
def handover : State :=
  let s := heard 0 (frame 0 20 0 5) (heard 2 (frame 0 0 0 5) .reset)
  s.withStation { s.station with
    holder := some 0, inUse := { levers := #v[450, 0, 0, 0], steering := 20 } }

/-- A request of station 1 at the head of the queue. -/
def requested (kind tag : Nat) (fields : Bytes) (s : State) : State :=
  s.withStore { s.store with queue := [{ station := 1, kind := kind, tag := tag, fields := fields }] }

/-! ## Field scenes -/

/-- Every table of the propulsion and steering units in use. -/
def fitted : State := put 1 engineTable (put 2 curveTable (put 3 steeringTable .reset))

/-- `fitted` with the slot table in use and a cycle running. -/
def cycling : State :=
  let s := put 4 slotTable fitted
  s.withMach { s.mach with running := true, nextBoundary := ms 50 }

/-- Make-up and coupling tables in use, three nodes of state `node` and three couplings of state `record`, the
controller between two cycles. -/
def towed (node : TowNodeState) (record : CouplingState) (mode : SplitMode) (s : State) : State :=
  let s := put 5 makeUpTable (put 6 couplingTable s)
  (s.withTowLine { s.towLine with
      running := true, complete := true, pos := 3, nextDue := ms 250
      nodes := List.replicate 3 { state := node } }).withCoup
    { s.coup with records := List.replicate 3 { state := record, last := some 1648 }, mode := mode }

/-- Tables 9 and 10 in use. -/
def fuelled (s : State) : State := put 8 fuelTable (put 9 transferTable s)

/-- Tank i + 1 with a current level. -/
def gauged (i : Fin 12) (level : Nat) (s : State) : State :=
  s.modTank i fun t => { t with standing := .current, level := some level, lastWasLevel := true }

/-- Gauges and pump node as the run finds them, the counter at 416. -/
def ready : State :=
  let s := gauged 1 96000 (gauged 4 15200 (fuelled (put 4 (bytes [50, 1, 3, 20, 12, 15, 1, 0]) .reset)))
  let s := s.modMachNode 19 fun n => { n with state := .present, good := 2 }
  s.withTransfer { s.transfer with counter := 416, pump := { s.transfer.pump with baseline := some 0 } }

/-- Run 417 of section 8.7 accepted: 5000 L from tank 2 to tank 5. -/
def started : State :=
  after (.startTransfer (at_ 0) 1 7 (bytes ([2, 5] ++ n4 5000)))
    (requested 0x07 7 (bytes ([2, 5] ++ n4 5000)) ready)

/-- A pump report of the run, running set, of count `c` at 35.0 °C. -/
def pumped (s : State) (c : Nat) : State := s.pumpReport { running := true, fault := false, count := c, temp := 350 }

end Sys2Proof.Tests
end

