-- ==== Sys2Proof/Tests/Slice0.lean ====
section
/-! SUPPORT. Tests of the model against the manual's own worked sequences and tables, and the smoke test of
WellFormed. Every expected value stands in the section of spec/ that the test names. -/

namespace Sys2Proof.Tests

open Sys2Proof.Machine

/- One theorem at a time: elaborated side by side, the tests take a thread each, and each thread's stack counts
against the memory of the check. -/
set_option Elab.async false

/-! ## WellFormed refuses each ill-formed term -/

theorem test_wf_accepts : Instr.wf (.take (at_ 0) 1 5) = true := by decide
theorem test_wf_region : Region.wf (.table 14) = false := by decide
theorem test_wf_environment : Instr.wf (.orphanTimerExpiry (failing (.table 0))) = false := by decide
theorem test_wf_straps : Instr.wf (.coldStart (at_ 0) { addr := 4 } {}) = false := by decide
theorem test_wf_cold_table : Instr.wf (.coldStart (at_ 0) {} { tables := [14] }) = false := by decide
theorem test_wf_cold_account : Instr.wf (.coldStart (at_ 0) {} { accounts := [7] }) = false := by decide
theorem test_wf_cold_book : Instr.wf (.coldStart (at_ 0) {} { books := [0] }) = false := by decide
theorem test_wf_cold_history : Instr.wf (.coldStart (at_ 0) {} { history := [9] }) = false := by decide
theorem test_wf_frame_address : Instr.wf (.helmFrame (at_ 0) 256 1 []) = false := by decide
theorem test_wf_frame_source : Instr.wf (.pollReply (at_ 0) 254 256 []) = false := by decide
theorem test_wf_frame_payload :
    Instr.wf (.managementFrame (at_ 0) 0x70 1 (List.replicate 29 0)) = false := by decide
theorem test_wf_frame_kind : Instr.wf (.machineryReport (at_ 0) 254 1 256 []) = false := by decide
theorem test_wf_frame_answered : Instr.wf (.accessAnswer { time := 0, answers := some 0 } 254 1 []) = false := by decide
theorem test_wf_line_run : Instr.wf (.lineCheckFailure (at_ 0) .tow []) = false := by decide
theorem test_wf_event_station : Instr.wf (.take (at_ 0) 5 0) = false := by decide
theorem test_wf_event_count : Instr.wf (.ack (at_ 0) 1 256) = false := by decide
theorem test_wf_event_code : Instr.wf (.noneEvent (at_ 0) 1 0 1) = false := by decide
theorem test_wf_channel : Instr.wf (.syncOn (at_ 0) 1 0 5) = false := by decide
theorem test_wf_engine : Instr.wf (.dwellTimerExpiry (at_ 0) 0) = false := by decide
theorem test_wf_request_station : Instr.wf (.loadEnd (at_ 0) 0 0 [0, 0]) = false := by decide
theorem test_wf_request_tag : Instr.wf (.nextAlarm (at_ 0) 1 256 []) = false := by decide
theorem test_wf_request_fields : Instr.wf (.loadData (at_ 0) 1 0 (List.replicate 27 0)) = false := by decide
theorem test_wf_request_kind : Instr.wf (.unknownRequest (at_ 0) 1 0x0E 0 []) = false := by decide
theorem test_wf_discarded_kind : Instr.wf (.discardedFrame (at_ 0) .tow 254 1 0x21) = false := by decide

/-! ## Reset, the queue and the clock -/

/-- R126, R144, R176, R189: the tow ceiling at 200 with the start limit, TABLE MISSING active. -/
theorem test_reset : State.reset.coup.cTow = 200 ∧ State.reset.coup.startLimit = true
    ∧ State.reset.sourceOf 45 = true ∧ State.reset.ownAddress = 0x70 := by decide +kernel

/-- A cold start with ADDR1 high puts the part at 0x72 (R189). -/
theorem test_coldStart_address :
    (after (.coldStart (at_ 7) { addr := 2 } {}) held).ownAddress = 0x72
      ∧ (after (.coldStart (at_ 7) { addr := 2 } {}) held).station.holder = none := by decide +kernel

/-- CRC-16 of section 11.2 (R190): the check value of "123456789". -/
theorem test_crc : crc16 (bytes [0x31, 0x32, 0x33, 0x34, 0x35, 0x36, 0x37, 0x38, 0x39]) = 0x29B1 := by
  decide +kernel

/-! ## Stations (sections 1.8.1 and 1.8.2) -/

/-- The frame with which station 3 matches: lever 1 at 430, steering 10. -/
def matching : HelmFrame := { frame 0 10 0 6 with levers := #v[430, 0, 0, 0] }

def mismatched : State := afterAll [.take (at_ 0) 3 6, .release (at_ 120000) 1 6] handover

theorem test_take_pending :
    ((after (.take (at_ 0) 3 6) handover).stationAt 2).result = .pending
      ∧ (after (.take (at_ 0) 3 6) handover).station.transferTimer = some (sec 10) := by decide +kernel

theorem test_release_mismatch :
    (mismatched.stationAt 0).result = .mismatch ∧ (mismatched.stationAt 2).result = .mismatch
      ∧ mismatched.station.requester = some 2 := by decide +kernel

theorem test_release_hands_over :
    let t := after (.release (at_ 400000) 1 7) (heard 2 matching mismatched)
    t.station.holder = some 2 ∧ t.station.inUse.levers[0] = 430 ∧ (t.stationAt 0).result = .accepted
      ∧ (t.stationAt 2).result = .accepted := by decide +kernel

/-- Section 1.8.2: station 2 is lost at 1.3 s; at 2.0 s station 1 is BUSY; at 3.1 s station 4 takes command. -/
def orphaned : State :=
  let f : HelmFrame := { frame 0 (-100) 0 5 with levers := #v[600, 600, 0, 0] }
  let g : HelmFrame := { frame 0 (-80) 0 6 with levers := #v[590, 610, 0, 0] }
  let s := heard 0 (frame 0 0 0 5) (heard 1 f (heard 3 g .reset))
  let s := s.modStation 1 fun x => { x with silence := some 130000 }
  after (.silenceTimerExpiry (at_ 0) 2)
    (s.withStation { s.station with
      holder := some 1, requester := some 3, transferTimer := some (sec 10)
      inUse := { levers := #v[600, 600, 0, 0], steering := -100 } })

theorem test_silence_orphans : orphaned.now = 130000 ∧ orphaned.station.holder = none
    ∧ orphaned.station.orphanTimer = some 630000 ∧ orphaned.sourceOf 5 = true
    ∧ orphaned.station.inUse.levers[1] = 600 ∧ orphaned.station.requester = some 3 := by decide +kernel

theorem test_take_busy_while_pending :
    ((after (.take (at_ 200000) 1 6) orphaned).stationAt 0).result = .busy := by decide +kernel

theorem test_take_from_orphan_hold :
    let t := after (.take (at_ 310000) 4 7) orphaned
    t.station.holder = some 3 ∧ t.station.inUse.levers[1] = 610 ∧ t.sourceOf 5 = false
      ∧ t.cond.alarm[4] = .clearedUnacked := by decide +kernel

theorem test_orphan_timer :
    let t := after (.orphanTimerExpiry (at_ 0)) orphaned
    t.now = 630000 ∧ t.station.inUse.levers[0] = 0 ∧ t.station.inUse.steering = 0 := by decide +kernel

/-- R2, R3: two helm frames make a station PRESENT, its baseline the second one's count. -/
theorem test_helmFrame_presence :
    let t := afterAll [.helmFrame (at_ 0) 0x70 1 (helm 0 0 0 4), .helmFrame (at_ 100) 0x70 1 (helm 0 0 1 5)] .reset
    (t.stationAt 0).presence = .present ∧ (t.stationAt 0).baseline = some 5 ∧ t.station.holder = none := by
  decide +kernel

/-- A helm frame of a PRESENT station brings its event (R4): TAKE from FREE. -/
theorem test_helmFrame_event :
    (after (.helmFrame (at_ 0) 0x70 1 (helm 0 0 1 6)) free).station.holder = some 0 := by decide +kernel

/-- R12: SEIZE is for the engine room; the holder's result is SEIZED. -/
theorem test_seize :
    let t := after (.seize (at_ 0) 2 6) held
    t.station.holder = some 1 ∧ (t.stationAt 0).result = .seized ∧ (t.stationAt 1).result = .accepted := by
  decide +kernel

/-! ## Propulsion (sections 2.6 and 2.7) -/

/-- Engine 1 of section 2.6: AHEAD, confirmed, at setpoint `s`, lever 1 at `lever`, C_tow `cTow`. -/
def pulling (s : Nat) (lever : Int) (cTow : Nat) : State :=
  let x := fitted.modEngine 0 fun g =>
    { g with gear := .ahead, lastDir := some .ahead, setpoint := s, confirmedGear := some 1, rpm := some 1020
             standing := .current, flags := some { running := true, alarm := false, local_ := false } }
  (x.withStation { x.station with inUse := { x.station.inUse with levers := #v[lever, 0, 0, 0] } }).withCoup
    { x.coup with cTow := cTow, startLimit := false }

/-- The command and the setpoint after one demand computation of engine 1, 50 ms from the last. -/
def demanded (s : State) : EngineCommand × Nat :=
  let r := s.demand 0 (engineEntryOf engineTable 0) 50 (min s.coup.cTow (min (s.cFeed 0) (s.cReact 0)))
  (r.1, (r.2.engineAt 0).setpoint)

theorem test_demand_first_step :
    demanded (pulling 9600 450 604) = ({ rpm := 603, gear := 1 }, 9648) := by decide +kernel

theorem test_demand_reaches_target :
    demanded (pulling 16272 450 604) = ({ rpm := 1020, gear := 1 }, 16320)
      ∧ demanded (pulling 16320 450 604) = ({ rpm := 1020, gear := 1 }, 16320) := by decide +kernel

theorem test_demand_lowered_ceiling :
    demanded (pulling 21184 800 400) = ({ rpm := 1080, gear := 1 }, 17280) := by decide +kernel

theorem test_demand_reversal :
    demanded (pulling 16320 (-400) 1000) = ({ rpm := 600, gear := 0 }, 9600) := by decide +kernel

/-- Section 2.7 at 3.60 s: the dwell expires, and the computation after it engages ASTERN. -/
def dwelling : State :=
  (pulling 9600 (-400) 1000).modEngine 0 fun g =>
    { g with gear := .shifting, shiftTarget := some .astern, phase := .dwell, dwell := some 360000 }

theorem test_dwell_expiry :
    let t := after (.dwellTimerExpiry (at_ 0) 1) dwelling
    t.now = 360000 ∧ demanded t = ({ rpm := 603, gear := 2 }, 9648) := by decide +kernel

theorem test_demand_before_dwell_expiry :
    demanded dwelling = ({ rpm := 600, gear := 0 }, 9600) := by decide +kernel

/-- Section 2.7's last paragraph: a confirm timer's expiry puts engine 1 into gear fault. -/
theorem test_confirm_expiry :
    let s := fitted.modEngine 0 fun g => { g with gear := .astern, confirm := some 760000 }
    let t := after (.confirmTimerExpiry (at_ 0) 1) s
    t.now = 760000 ∧ (t.engineAt 0).gear = .neutral ∧ (t.engineAt 0).gearFault = true ∧ t.sourceOf 11 = true := by
  decide +kernel

/-! ## Steering (section 3.5) -/

/-- FR1 with the flanking value at 300 and engine 1 in gear state `gear`. -/
def flanking (gear : GearState) : State :=
  let s := fitted.modEngine 0 fun g => { g with gear := gear }
  s.withStation { s.station with inUse := { s.station.inUse with flanking := 300 } }

theorem test_rudder_centred_and_moving :
    ((flanking .shifting).rudderCompute 2 (steerEntryOf steeringTable 2) 50).actuatorAt 2
        = { (flanking .shifting).actuatorAt 2 with target := 0, commanded := 0, lastComputation := some 0 }
      ∧ (((flanking .astern).rudderCompute 2 (steerEntryOf steeringTable 2) 50).actuatorAt 2).target = 300
      ∧ (((flanking .astern).rudderCompute 2 (steerEntryOf steeringTable 2) 50).actuatorAt 2).commanded = 3 := by
  decide +kernel

/-- 8.271 s: the observation 2.000 s after the run began enters FAULT with the angle frozen at 120. -/
theorem test_follow_fault :
    let s := ((flanking .astern).modActuator 2 fun x =>
      { x with commanded := 282, outStart := some 627100, standing := .active }).withNow 827100
    let t := s.actuatorReport 2 (steerEntryOf steeringTable 2) 120
    (t.actuatorAt 2).fault = true ∧ (t.actuatorAt 2).frozen = some 120 ∧ t.sourceOf 22 = true := by decide +kernel

/-! ## The machinery line (section 4.9) -/

/-- The slot of the gauge node's window, due and open, in the cycle that began at the mark. -/
def called : State :=
  cycling.withMach { cycling.mach with
    window := some { node := 18, content := 11, kind := .call, openAt := 0, closeAt := 250 }
    nodes := cycling.mach.nodes.set 17 { state := .present, good := 2 } }

/-- Three closes without a report make a PRESENT node LOST (R76). -/
theorem test_window_closes_lose_a_node :
    let miss (s : State) : State :=
      (after (.machineryWindowClose (at_ 0)) s).withMach
        { (after (.machineryWindowClose (at_ 0)) s).mach with window := called.mach.window }
    (miss (miss called)).machStateOf 18 = .present ∧ (miss (miss (miss called))).machStateOf 18 = .lost
      ∧ ((miss (miss (miss called))).machNodeAt 17).total = 3 ∧ (miss (miss (miss called))).sourceOf 28 = true := by
  decide +kernel

theorem test_report_taken :
    let t := after (.machineryReport (at_ 100) 0xFE 18 0x1B (bytes ([1] ++ n3 8100))) (fuelled called)
    (t.mach.window.map (·.taken)) = some true ∧ (t.tankRec 2).level = some 8100 := by decide +kernel

/-- R66, R67: the boundary sends the mark with the new count, and the first due slot opens behind it. -/
theorem test_cycle_boundary :
    let t := after (.cycleBoundary (at_ 0)) cycling
    t.now = ms 50 ∧ t.mach.cycleCount = 1 ∧ (t.mach.window.map (·.node)) = some 1
      ∧ (t.mach.window.map (·.openAt)) = some (ms 50 + 9)
      ∧ (t.sent.machinery.getLast?.map (·.payload)) = some [0, 1, 1] := by decide +kernel

/-- R75: a report that arrives while the mark leaves meets no window and is late; one taken when the window is open
is good, and so is an engine report that ends after its rpm (R74: source and kind alone). -/
theorem test_report_during_the_mark :
    let s := after (.cycleBoundary (at_ 0)) cycling
    let report (t : Moment) : State := after (.machineryReport (at_ t) 0xFE 1 0x18 (bytes (n2 700))) s
    (report (ms 50 + 8)).lines.machLate = 1 ∧ ((report (ms 50 + 8)).mach.window.map (·.taken)) = some false
      ∧ (report (ms 50 + 9)).lines.machLate = 0 ∧ ((report (ms 50 + 9)).mach.window.map (·.taken)) = some true := by
  decide +kernel

/-- R75: inside an open window a report from another node is of a wrong source also where it answers an earlier frame
of the part; one from the window's node that does is late, and stray where the window has taken its report. -/
theorem test_wrong_source_of_an_earlier_frame :
    let s := called.withSent { machinery := [{ dst := 0xFF, src := 0xFE, kind := 0x10, payload := [0, 0, 1] }] }
    let report (src : Nat) : State :=
      after (.machineryReport { time := 100, answers := some 0 } 0xFE src 0x1B (bytes [0])) s
    let second := after (.machineryReport { time := 101, answers := some 0 } 0xFE 18 0x1B (bytes [0]))
      (after (.machineryReport (at_ 100) 0xFE 18 0x1B (bytes [0])) s)
    (report 17).lines.machWrongSource = 1 ∧ (report 17).lines.machLate = 0
      ∧ (report 18).lines.machWrongSource = 0 ∧ (report 18).lines.machLate = 1
      ∧ second.lines.machStray = 1 ∧ second.lines.machLate = 0 := by decide +kernel

/-- R53: MR1's angle is taken from its node's report by a slot of FR1's content. -/
theorem test_rudder_report_by_node :
    let s := cycling.withMach { cycling.mach with
      window := some { node := 5, content := 6, kind := .exchange, openAt := 0, closeAt := 250 } }
    let t := after (.machineryReport (at_ 100) 0xFE 5 0x19 (bytes (i2 (-120)))) s
    (t.actuatorAt 0).reported = some (-120) ∧ (t.actuatorAt 2).reported = none := by decide +kernel

/-- R27 to R29, R35: a report of the commanded gear with LOCAL set stops the confirm timer and confirms nothing. -/
theorem test_local_report :
    let s := (fitted.modEngine 0 fun g =>
      { g with gear := .ahead, unconfirmed := true, confirm := some (sec 4) }).engineReport 0
        (engineEntryOf engineTable 0)
    ((s (engineReportOf (bytes [2, 88, 1, 5]))).engineAt 0).unconfirmed = true
      ∧ ((s (engineReportOf (bytes [2, 88, 1, 5]))).engineAt 0).confirm = none
      ∧ ((s (engineReportOf (bytes [2, 88, 1, 1]))).engineAt 0).unconfirmed = false
      ∧ ((s (engineReportOf (bytes [2, 88, 1, 1]))).engineAt 0).standing = .current := by decide +kernel

/-! ## The tow line (sections 5.4, 5.8.1 and 5.8.2) -/

theorem test_tension_codes :
    decodeTension 0xA7 = .tension 1264 ∧ decodeTension 0xB3 = .tension 1648
      ∧ decodeTension 0x20 = .tension 65 ∧ decodeTension 0xFE = .tension 8000 := by decide

/-- The node at entry 1 polled, after its state and counts are set. -/
def polled (n : TowNode) : State :=
  let s := put 11 (bytes (List.replicate 8 0 ++ [2] ++ List.replicate 151 0)) (towed .present .made .normal .reset)
  s.withTowLine { s.towLine with
    complete := false, pos := 3, window := some { entry := 2, closeAt := 400 }
    nodes := s.towLine.nodes.set 2 n }

/-- Section 5.8.2, poll 4: the third miss in a row makes a PRESENT node SILENT and its couplings UNKNOWN. -/
theorem test_third_miss_is_silence :
    let t := after (.pollWindowClose (at_ 0)) (polled { state := .present, missed := 2 })
    (t.towLine.nodes[2]?.map (·.state)) = some .silent
      ∧ (t.coup.records[2]?.map (·.state)) = some .unknown := by decide +kernel

/-- Section 5.8.2, poll 7: the third good reply in a row, of masked code 0x41, makes a SILENT node FAULT. -/
theorem test_masked_code_is_fault :
    let t := after (.pollReply (at_ 0) 0xFE 3 (bytes [0x41, 0, 1, 0xB3]))
      (polled { state := .silent, good := 2 })
    (t.towLine.nodes[2]?.map (·.state)) = some .fault := by decide +kernel

/-- R87: after the last entry's good reply a second reply in its window is stray, and one to an earlier frame late. -/
theorem test_second_reply_is_stray :
    let reply (time : Moment) (answers : Option Nat) : Instr :=
      .pollReply { time := time, answers := answers } 0xFE 3 (bytes [0, 0, 1, 0xB3])
    let s := after (reply 100 none)
      ((polled { state := .present }).withSent { tow := [{ dst := 3, src := 0xFE, kind := 0x20, payload := [] }] })
    (after (reply 100 (some 1)) s).lines.towStray = 1 ∧ (after (reply 100 (some 0)) s).lines.towLate = 1
      ∧ (after (reply 401 none) s).lines.towLate = 1 := by decide +kernel

/-- Section 5.8.1: an access limit expired at 221.0 ms is answered TIMEOUT. -/
theorem test_access_timeout :
    let s := requested 0x0C 9 (bytes [3, 0, 0, 4]) (polled {})
    let s := (s.withStore { s.store with head := .handed }).withTowLine { s.towLine with
      window := none
      access := some { address := 3, write := false, offset := 0, length := 4, data := [], deadline := some 22100 } }
    let t := after (.nodeAccessTimeout (at_ 0)) s
    t.now = 22100 ∧ (t.tx.replies.map (·.status)) = [.timeout] ∧ t.towLine.access = none := by decide +kernel

/-! ## The tow ceiling (section 6.3.3) -/

/-- Rated 2000 and reading 1648: ρ is 824 and the capped value 604; rises are by 50 a cycle end. -/
theorem test_tow_ceiling :
    let s := towed .present .made .normal .reset
    let s := s.withCoup { s.coup with startLimit := false }
    s.cCap = 604 ∧ (s.withCoup { s.coup with cTow := 1000 }).cycleEnd.coup.cTow = 604
      ∧ (s.withCoup { s.coup with cTow := 504 }).cycleEnd.coup.cTow = 554 := by decide +kernel

/-! ## Fuel (section 7.6) -/

def metering : ConsumerEntry := { consumerEntryOf fuelTable 0 with feedTank := 0 }

/-- The account before report 1. -/
def meteredBefore : State :=
  (fuelled fitted).modConsumer 0 fun c =>
    { c with account := { c.account with total := 1234567 }, baseValid := true, baseSupply := 65340
             baseReturn := 12000 }

/-- After report 1, two misses, report 2 and report 3. -/
def meteredReports : State × State × State :=
  let a := meteredBefore.meterEntry 0 metering { supply := 14, ret := 12060, temp := 450 }
  let b := (a.modConsumer 0 fun c => { c with gap := 2 }).meterEntry 0 metering
    { supply := 626, ret := 12240, temp := 0x8000 }
  (a, b, b.meterEntry 0 metering { supply := 5626, ret := 12300, temp := 452 })

theorem test_meter_measured :
    (meteredReports.1.consumerAt 0).account.total = 1234640
      ∧ (meteredReports.1.consumerAt 0).account.remainder = 265000
      ∧ (meteredReports.1.tankRec 2).book.consumption = 73
      ∧ (meteredReports.2.1.consumerAt 0).account.total = 1234850
      ∧ (meteredReports.2.1.consumerAt 0).account.remainder = 1508200
      ∧ (meteredReports.2.1.consumerAt 0).account.unmetered = 0 := by decide +kernel

theorem test_meter_estimated :
    (meteredReports.2.2.consumerAt 0).account.total = 1234920
      ∧ (meteredReports.2.2.consumerAt 0).account.remainder = 1922600
      ∧ (meteredReports.2.2.consumerAt 0).account.unmetered = 1
      ∧ (meteredReports.2.2.consumerAt 0).meterFault = true ∧ meteredReports.2.2.sourceOf 41 = true := by
  decide +kernel

/-- R134's example: a net of −3 pulses from remainder 1 922 600 takes −1 mL and leaves 997 300. -/
theorem test_negative_increment :
    let t := meteredReports.2.2.charge 0 metering (-3) 975100
    (t.consumerAt 0).account.total = 1234919 ∧ (t.consumerAt 0).account.remainder = 997300 := by
  decide +kernel

/-! ## Transfer (section 8.7) -/

theorem test_start_transfer :
    (started.transfer.run.map (·.number)) = some 417 ∧ (started.transfer.run.map (·.target)) = some 4800
      ∧ (started.transfer.run.map (·.clamped)) = some true
      ∧ started.transfer.confirmTimer = some (sec 5) := by decide +kernel

theorem test_pump_increments :
    ((pumped started 90).transfer.run.map (·.moved)) = some 177
      ∧ (pumped started 90).transfer.pump.remainder = 240000 ∧ (pumped started 90).transfer.state = .running
      ∧ ((pumped (pumped started 90) 340).transfer.run.map (·.moved)) = some 670 := by decide +kernel

/-- 568.80 s: the destination at its high mark ends the run with DESTINATION HIGH and enters TRAILER. -/
theorem test_destination_high :
    let s := gauged 4 18002 (pumped started 90)
    (pumped s 340).transfer.state = .trailer
      ∧ (((pumped s 340).transfer.run.bind (·.cause))) = some .destinationHigh := by decide +kernel

/-- The scene of section 8.7 with rule 1 filling tank 5 from tank 2, its gauge at 5950 L. -/
def ruled : State :=
  gauged 4 5950 (put 9 (bytes ([1, 2, 5, 1, 5, 2] ++ List.replicate 9 0 ++ n2 500 ++ [70] ++ n2 2000)) ready)

/-- R159, R160: at or below the low mark the rule fires, its run AUTO of rule 1 with the high mark less the level. -/
theorem test_auto_refill :
    let t := ruled.examineRule 5 (tankEntryOf fuelTable 4) 5950 0
    (t.transfer.run.map (·.target)) = some (18000 - 5950) ∧ (t.transfer.run.map (·.origin)) = some (some 1)
      ∧ t.transfer.state = .starting ∧ (t.transfer.rules[0]).latch = true ∧ (t.transfer.rules[0]).waiting = false := by
  decide +kernel

/-- 569.20 s: the second zero delta in a row ends the trailer (R157). -/
theorem test_second_zero_ends_the_trailer :
    let s := gauged 4 18002 (pumped started 90)
    let t := pumped (pumped (pumped (pumped s 340) 480) 480) 480
    t.transfer.state = .idle ∧ (t.transfer.history.map (·.cause)) = [some .destinationHigh]
      ∧ (t.transfer.history.map (·.trailer)) = [276] ∧ (t.transfer.history.map (·.incomplete)) = [false] := by
  decide +kernel

/-! ## Conditions (section 9.7) -/

/-- The reaction table of section 9.7. -/
def alarmTable : Bytes :=
  bytes ((List.range 45).flatMap fun i =>
    if i = 31 then [32, 0, 11] ++ n2 500 ++ [15]
    else if i = 37 then [38, 2, 12] ++ n2 1000 ++ [0]
    else if i = 38 then [39, 1, 14] ++ n2 700 ++ [4]
    else [i + 1, 3, 0] ++ n2 1000 ++ [0])

/-- No code active, the reaction table in use, stations 1 and 3 PRESENT. -/
def quiet : State :=
  (put 10 alarmTable (heard 0 (frame 0 0 0 5) (heard 2 (frame 0 0 0 5) .reset))).withCond {}

/-- Alarm states of 19, 32, 38, 39, the ceilings of engines 1 and 3, and the summary code. -/
def shown (s : State) : List AlarmState × Nat × Nat × Nat :=
  ([s.cond.alarm[18], s.cond.alarm[31], s.cond.alarm[37], s.cond.alarm[38]], s.cReact 0, s.cReact 2, s.summaryCode)

/-- Steps 1 to 5. -/
def fiveSteps : State :=
  ((((quiet.setSource 38 true).setSource 32 true).setSource 19 true).setSource 39 true).setSource 32 false

theorem test_alarms_held_cap :
    shown fiveSteps = ([.activeUnacked, .clearedUnacked, .activeUnacked, .activeUnacked], 500, 500, 32) := by
  decide +kernel

theorem test_ack_by_class :
    shown (after (.ack (at_ 0) 1 6) fiveSteps)
      = ([.activeUnacked, .normal, .activeUnacked, .activeUnacked], 1000, 700, 39) := by decide +kernel

/-- Step 7: code 39, class 1, ACTIVE-UNACKED, 2 left; line A is released and line B stays asserted. -/
theorem test_next_alarm :
    let t := after (.nextAlarm (at_ 0) 1 3 []) (requested 0x06 3 [] (after (.ack (at_ 0) 1 6) fiveSteps))
    (t.tx.replies.map (·.fields)) = [[39, 1, 1, 2]] ∧ t.lineAsserted false = false
      ∧ t.lineAsserted true = true ∧ t.summaryCode = 38 := by decide +kernel

/-! ## Tables and requests (section 10.5) -/

/-- Station 3 owns the buffer to 6.2 s for table 11, and station 1's BEGIN of table 8 waits. -/
def twoConsoles : State :=
  State.reset.withStore { State.reset.store with
    buffer := some { owner := 3, table := 11, bytes := List.replicate 270 0, deadline := 620000 }
    waitingLoad := some { station := 1, tag := 4, table := 8, length := 13 } }

theorem test_begin_busy :
    let r : MgmtRequest := { station := 2, kind := 0x01, tag := 6, fields := bytes [12, 0, 160] }
    let t := after (.loadBegin (at_ 60000) 2 6 (bytes [12, 0, 160]))
      (twoConsoles.withStore { twoConsoles.store with queue := [r] })
    (t.tx.replies.map (·.status)) = [.busy] := by decide +kernel

theorem test_inactivity_takes_the_waiting_begin :
    let t := after (.loadInactivityTimeout (at_ 0)) twoConsoles
    (t.store.buffer.map (·.owner)) = some 1 ∧ (t.store.buffer.map (·.deadline)) = some 1120000
      ∧ t.store.waitingLoad = none ∧ (t.tx.replies.map (·.status)) = [.ok] := by decide +kernel

/-- 7.0 s: LOAD END from a station that owns no buffer is NOT OPEN; 7.4 s: a wrong CRC is CRC. -/
theorem test_load_end :
    let s := twoConsoles.withStore { twoConsoles.store with
      buffer := some { owner := 1, table := 8, bytes := List.replicate 13 0, deadline := 1230000 } }
    let ends (station : Nat) : State :=
      after (.loadEnd (at_ 0) station 5 [0, 1])
        (s.withStore { s.store with queue := [{ station := station, kind := 0x03, tag := 5, fields := [0, 1] }] })
    ((ends 3).tx.replies.map (·.status)) = [.notOpen] ∧ ((ends 1).tx.replies.map (·.status)) = [.crc] := by
  decide +kernel

/-- R178: a payload without a tag joins the queue. -/
theorem test_short_request_waits :
    let t := after (.managementFrame (at_ 0) 0x70 1 (bytes [6])) .reset
    (t.store.queue.map (·.kind)) = [6] ∧ t.tx.replies = []
      ∧ ((after (.nextAlarm (at_ 0) 1 0 []) t).tx.replies.map (·.status)) = [.range] := by decide +kernel

/-- R189: what was never written is restored as empty, whatever the ECC is said to have found. -/
theorem test_never_written_is_empty :
    let t := after (.coldStart (at_ 0) {} { accounts := [1], books := [2], splitMode := true }) .reset
    t.coup.mode = .normal ∧ (t.consumerAt 0).account.valid = true ∧ (t.tankRec 1).book.valid = true := by
  decide +kernel

/-- R191: the length byte 29 fails the length check, a wrong CRC the CRC check, and a missing stop bit the framing
check; a whole frame counts nothing, and bytes after it one framing error. -/
theorem test_line_checks :
    let run (l : List Nat) : List RxByte := (bytes l).map fun b => { value := b }
    let body := [0xFE, 3, 0x21, 1, 7]
    let crc := n2 (crc16 (bytes body))
    lineCheck (run [0xFE, 3, 0x21, 29]) = some .length ∧ lineCheck (run (body ++ [0, 0])) = some .crc
      ∧ lineCheck ({ value := 0xFE, stop := false } :: run [3, 0x21, 29]) = some .framing
      ∧ lineCheck (run (body ++ crc)) = none ∧ bytesFollow (run (body ++ crc)) = false
      ∧ bytesFollow (run (body ++ crc ++ [0])) = true
      ∧ (after (.lineCheckFailure (at_ 0) .tow (run [0xFE, 3, 0x21, 29])) .reset).lines.tow.length = 1 := by
  decide +kernel

/-- A good LOAD END puts the image in use (R183): tow limits (section 6.1.3) with a floor of 300. The word its read-back
corrects is counted (R186, R187). -/
theorem test_load_end_installs :
    let b := bytes (n2 700 ++ n2 950 ++ n2 300 ++ n2 50 ++ n2 400 ++ [4] ++ n2 600)
    let fields := beBytes 2 (crc16 b)
    let s := State.reset.withStore { State.reset.store with
      buffer := some { owner := 1, table := 8, bytes := b, deadline := sec 5 }
      queue := [{ station := 1, kind := 0x03, tag := 5, fields := fields }] }
    let t := after (.loadEnd { time := 0, readBack := { corrected := [.table 8] } } 1 5 fields) s
    (t.tx.replies.map (·.status)) = [.ok] ∧ (t.slot 7).valid = true ∧ t.towLimits.f = 300
      ∧ t.store.corrected = 1 := by decide +kernel

end Sys2Proof.Tests
end

