-- ==== Sys2Proof/Tests/Witnesses.lean ====
section
/-! SUPPORT. For every statement of Certificates/Slice0/Obligations.lean that has hypotheses, and for each of its
clauses, a concrete state and operands that meet them together. A theorem `met_X` belongs to the statement `X`;
where the clauses ask for different states there is one theorem each. -/

namespace Sys2Proof.Tests

open Sys2Proof.Machine

/- One theorem at a time: elaborated side by side, the tests take a thread each, and each thread's stack counts
against the memory of the check. -/
set_option Elab.async false

/-! ## What a witness needs -/

/-- The request of station 1 that `requested` puts at the head. -/
def request (kind : Nat) (fields : Bytes) : MgmtRequest := { station := 1, kind := kind, tag := 7, fields := fields }

/-- A request whose fields fit can be served while the station table is INVALID, every station having every
right (R1). -/
theorem served (s : State) (kind : Nat) (fields : Bytes) (g : Option Rights)
    (h1 : s.store.restartDue = false) (h2 : s.store.head = .waiting) (h3 : s.tableImage 0 = none)
    (h4 : fieldsFit kind fields.length = true) :
    (requested kind 7 fields s).canServe (request kind fields) g := by
  refine ⟨⟨h1, rfl, h2⟩, h4, fun x _ => ?_⟩
  have : (requested kind 7 fields s).stationTable = none := by
    have : (requested kind 7 fields s).tableImage 0 = s.tableImage 0 := rfl
    unfold State.stationTable
    rw [this, h3]
    rfl
  unfold State.holdsRight
  rw [this]

/-- A frame that answers none of the part's frames has not come too late. -/
theorem answers_none (sent : List Frame) : answersNewest sent none := by
  intro k h
  cases h

/-- A frame that answers the frame `k` of `sent` has come too late. -/
theorem answers_earlier {sent : List Frame} {k : Nat} (h : k < sent.length) : ¬ answersNewest sent (some k) := by
  intro hk
  exact absurd (hk k rfl) (Nat.not_le.2 h)

/-- A frame passes the match test where it is the station's last and its levers and steering lie near. -/
theorem no_match (s : State) (n : Fin 4) (h : s.matchTest n = false) (f : HelmFrame) : ¬ s.passesMatch n f := by
  intro hf
  rw [(matchTest_iff s n).2 ⟨f, hf⟩] at h
  cases h

/-! ## Steps, restarts -/

theorem met_EveryCommandCompletes : State.reset.pending = [] := rfl

/-- The retained store with the make-up table and split mode REJOINING written. -/
def stored : State :=
  State.reset.withStore { State.reset.store with retained := { State.reset.store.retained with
    tables := State.reset.store.retained.tables.set 5
      (some { image := makeUpTable, crc := crc16 makeUpTable })
    splitMode := some .rejoining } }

/-- Both cases of the start limit's clause, and each case of the split mode's. -/
theorem met_ColdStartLeavesEveryBlockAtItsStart :
    (let t := after (.coldStart (at_ 0) {} {}) .reset
     t.tableImage 5 = none ∧ State.reset.store.retained.splitMode = none)
      ∧ (let t := after (.coldStart (at_ 0) {} {}) stored
         t.pollList ≠ [] ∧ stored.store.retained.splitMode = some .rejoining ∧ t.coup.mode = .rejoining)
      ∧ (after (.coldStart (at_ 0) {} { splitMode := true }) stored).coup.mode = .split := by decide +kernel


/-- A retained store with a fuel region, a history of two runs, a counter and a slot table, its first table damaged,
and the same with an empty make-up list. -/
def restored (makeUp : Bytes) : State :=
  let kept (b : Bytes) : Option RetainedTable := some { image := b, crc := crc16 b }
  let run (n : Nat) : Run :=
    { number := n, source := 2, dest := 5, target := 1, clamped := false, origin := none, started := 0 }
  State.reset.withStore { State.reset.store with retained := {
    tables := ((((State.reset.store.retained.tables.set 0 (some { image := [0], crc := 0 })).set 1 (kept engineTable)).set
      3 (kept steeringTable)).set 4 (kept slotTable)).set 5 (kept makeUp)
    fuel := some State.reset.fuelRegion, history := some [run 9, run 8], counter := some 9 } }

/-- What a cold start finds and reads: damaged words of each region and none, the straps held and not, the first slot
that fires an engine's, and the first poll the bow node's and none. -/
theorem met_ColdStartLeavesEveryBlockAtItsStart_regions :
    let found : ColdRead := { accounts := [1], books := [12], history := [1], counter := true }
    let t := after (.coldStart (at_ 0) {} found) (restored makeUpTable)
    let u := after (.coldStart (failing .fuel) { thold := true } found) (restored [0])
    let v := after (.coldStart (at_ 0) {} {}) (restored [0])
    (t.consumerAt 0).account.valid = false ∧ (t.consumerAt 1).account.valid = true ∧ (t.tankRec 11).book.valid = false
      ∧ (t.transfer.history.map (·.number)) = [8] ∧ t.transfer.counter = 8 ∧ t.store.owed = []
      ∧ (t.slot 0).fault = true ∧ (t.mach.window.map fun w => (w.kind, w.content)) = some (.exchange, 0)
      ∧ (t.engineAt 0).lastCommand = some { rpm := 600, gear := 0 } ∧ (t.engineAt 1).lastCommand = none
      ∧ (t.towLine.window.map (·.entry)) = some 0 ∧ t.isBowNode 0 = true
      ∧ u.tableImage 4 = none ∧ u.tableImage 5 = none ∧ u.store.owed = [.fuel] ∧ u.store.writeFailures = 1
      ∧ v.tableImage 5 = some [0] ∧ v.pollList = [] ∧ v.coup.startLimit = false ∧ v.transfer.counter = 9 := by
  decide +kernel

/-- A read-back of the fuel region that corrected two words, at the cold start's own save. -/
theorem met_ColdStartLeavesEveryBlockAtItsStart_corrected :
    let e : Env := { time := 0, readBack := { corrected := [.fuel, .splitMode, .fuel] } }
    (after (.coldStart e {} { corrected := 3, books := [12] }) (restored [0])).store.corrected = 5
      ∧ (after (.coldStart e {} { corrected := 3 }) (restored [0])).store.corrected = 3 := by decide +kernel

theorem met_ControlRestartKeepsTablesAndAccounts :
    let s := cycling.withStore { cycling.store with restartDue := true }
    let p := s.withMach { s.mach with pendingTable := some slotTable }
    s.store.restartDue = true ∧ s.transfer.state = .idle ∧ s.mach.pendingTable = none
      ∧ p.store.restartDue = true ∧ p.mach.pendingTable = some slotTable := by decide +kernel


/-- A restart amid a transfer run, and one that finds a reported angle with its actuator's slot first. -/
theorem met_ControlRestartKeepsTablesAndAccounts_owners :
    let due (s : State) : State := s.withStore { s.store with restartDue := true }
    let run := due (started.withNow (sec 20))
    let angled := due (put 4 (bytes [50, 1, 3, 5, 4, 8, 1, 0]) (fitted.modActuator 0 fun x =>
      { x with reported := some 100, fault := true }))
    let t := after (.controlRestart (at_ 0)) run
    let u := after (.controlRestart (at_ 0)) angled
    run.store.restartDue = true ∧ run.transfer.state ≠ .idle ∧ run.transfer.run.isSome = true
      ∧ (t.transfer.history.map fun r => (r.number, r.cause, r.duration)) = [(417, some .restart, some 20)]
      ∧ t.transfer.state = .idle ∧ t.store.retained.history = some t.transfer.history
      ∧ (u.actuatorAt 0).reported = some 100 ∧ (u.actuatorAt 0).fault = false ∧ (u.actuatorAt 0).standing = .active
      ∧ (u.mach.window.map (·.content)) = some 4 ∧ (u.actuatorAt 0).commanded = 97 := by decide +kernel

/-! ## Invariants: each holds in a state that has a next one -/

theorem met_StepKeepsTheAuthorityForms :
    let s := asked.withPending [.release (at_ 0) 1 6]
    s.station.authorityFormed ∧ ∃ t : State, step s = .next t := by
  refine ⟨?_, _, rfl⟩
  unfold StationUnit.authorityFormed
  decide +kernel

theorem met_StepKeepsPresenceAndItsConditions :
    let s := held.withPending [.silenceTimerExpiry (at_ 0) 1]
    (∀ n : Fin 4, (s.stationAt n).presenceFormed) ∧ s.stationConditions ∧ ∃ t : State, step s = .next t := by
  refine ⟨?_, ?_, _, rfl⟩
  · unfold Station.presenceFormed
    decide +kernel
  · unfold State.stationConditions
    decide +kernel

/-- Engine 1 AHEAD with its confirm timer running, engine 2 in gear fault. -/
def engaged : State :=
  ((fitted.modEngine 0 fun g =>
      { g with gear := .ahead, confirm := some (sec 4), unconfirmed := true, lastDir := some .ahead
               setpoint := 9600, standing := .current
               flags := some { running := true, alarm := false, local_ := false } }).modEngine 1
    fun g => { g with gearFault := true }).setSource 12 true

theorem met_StepKeepsTheEngineRecords :
    let s := engaged.withPending [.confirmTimerExpiry (at_ 0) 1]
    (∀ n : Fin 4, (s.engineAt n).trimFormed ∧ (s.engineAt n).gearFormed) ∧ s.gearConditions
      ∧ ∃ t : State, step s = .next t := by
  refine ⟨?_, ?_, _, rfl⟩
  · unfold Engine.trimFormed Engine.gearFormed
    decide +kernel
  · unfold State.gearConditions
    decide +kernel

/-- SPLIT, with the split couplings OPENED and the cut B nodes SILENT. -/
def divided : State :=
  let s := towed .silent .unmade .split held
  s.withCoup { s.coup with
    records := [{ state := .made, last := some 1648 }, { state := .opened }, { state := .opened }] }

theorem met_StepKeepsOpenedCouplingsSplit :
    let s := divided.withPending [.recouple (at_ 0) 1 6]
    s.openedFormed ∧ (∃ c ∈ s.coup.records, c.state = .opened) ∧ ∃ t : State, step s = .next t := by
  refine ⟨?_, ?_, _, rfl⟩
  · intro i c h ho
    refine ⟨Or.inr rfl, ?_⟩
    match i, h with
    | 0, h =>
      cases Option.some.inj h
      cases ho
    | 1, _ => exact ⟨_, rfl, by decide +kernel⟩
    | 2, _ => exact ⟨_, rfl, by decide +kernel⟩
    | _ + 3, h => cases h
  · exact ⟨{ state := .opened }, by decide +kernel, rfl⟩

theorem met_StepKeepsTheCeilingUnderItsCap :
    let s := State.reset.withPending [.pollCycleStart (at_ 0)]
    s.ceilingFormed ∧ ∃ t : State, step s = .next t := by
  refine ⟨⟨⟨?_, ?_⟩, by decide +kernel⟩, _, rfl⟩
  · intro h
    cases h
  · intro c h
    cases h

theorem met_StepKeepsEveryBookBalanced :
    let s := (started.withPending [.accountSaveTimer (at_ 0)]).modTank 1 fun t =>
      { t with book := { opening := 9, moveOut := 2, book := 7 } }
    s.booksBalanced ∧ ∃ t : State, step s = .next t := by
  refine ⟨⟨?_, ?_⟩, _, rfl⟩
  · unfold Book.balanced
    decide +kernel
  · intro r h
    cases h

theorem met_StepKeepsTheTransferRun :
    let s := started.withPending [.startConfirmTimerExpiry (at_ 0)]
    s.transfer.runFormed ∧ ∃ t : State, step s = .next t := by
  refine ⟨?_, _, rfl⟩
  unfold TransferUnit.runFormed
  decide +kernel

theorem met_StepKeepsTheAlarmStates :
    let s := free.withPending [.ack (at_ 0) 1 6]
    s.cond.alarmsFollow ∧ s.storeConditions ∧ ∃ t : State, step s = .next t := by
  refine ⟨?_, ?_, _, rfl⟩
  · unfold CondUnit.alarmsFollow
    decide +kernel
  · unfold State.storeConditions
    decide +kernel

theorem met_StepKeepsTheBounds :
    let s := State.reset.withPending [.managementFrame (at_ 0) 0x70 1 (bytes [6, 1])]
    s.storesBounded ∧ ∃ t : State, step s = .next t := by
  refine ⟨⟨by decide +kernel, by decide +kernel, fun h e => (by cases e), by decide +kernel, by decide +kernel, ?_⟩,
    _, rfl⟩
  unfold LineCounters.bounded BasicCounters.bounded
  decide +kernel

/-! ## Stations -/

theorem met_HelmFrameIsHeardAndItsEventTaken :
    helmFrameOf (helm 0 0 1 6) = some (frame 0 0 1 6) ∧ (free.stationAt 0).fitted = true
      ∧ (free.stationAt 0).presence = .present ∧ (free.stationAt 0).baseline ≠ some (frame 0 0 1 6).count
      ∧ (State.reset.stationAt 0).fitted = true ∧ (State.reset.stationAt 0).presence ≠ .present := by
  decide +kernel

theorem met_OnlyNewEventsAreTaken :
    ¬ free.offers 0 5 ∧ ¬ State.reset.offers 3 0 ∧ free.offers 0 6 ∧ free.offers 0 255
      ∧ eventKindOf 0 = .none ∧ eventKindOf 0x0B = .unknown ∧ eventKindOf 0x15 = .unknown := by
  unfold State.offers
  decide +kernel

theorem met_OnlyTheHolderMayOrder : asked.offers 1 6 ∧ asked.station.holder ≠ some 1 := by
  unfold State.offers
  decide +kernel

/-- Station 2 asks while no station holds command; stations 1 to 3 are PRESENT, station 3's levers far off. -/
def wanted : State :=
  let s := heard 2 (frame 400 0 0 5) free
  s.withStation { s.station with requester := some 1, transferTimer := some (sec 10) }

theorem met_TakeFollowsTheAuthorityForm_held :
    held.offers 0 6 ∧ held.station.holder = some 0 ∧ held.offers 1 6 ∧ held.station.requester = none
      ∧ asked.offers 1 6 ∧ asked.station.holder = some 0 ∧ asked.station.requester = some 1
      ∧ (heard 2 (frame 0 0 0 5) asked).offers 2 6 := by
  unfold State.offers
  decide +kernel

theorem met_TakeFollowsTheAuthorityForm_free :
    (free.offers 0 6 ∧ free.station.holder = none ∧ free.station.requester = none
        ∧ free.passesMatch 0 (frame 0 0 0 5))
      ∧ (wanted.offers 0 6 ∧ wanted.station.holder = none ∧ wanted.station.requester = some 1)
      ∧ (wanted.withStation { wanted.station with requester := none }).offers 2 6
      ∧ ∀ f : HelmFrame, ¬ (wanted.withStation { wanted.station with requester := none }).passesMatch 2 f := by
  refine ⟨?_, ?_, ?_, no_match _ _ (by decide +kernel)⟩
  · unfold State.offers State.passesMatch
    decide +kernel
  · unfold State.offers
    decide +kernel
  · unfold State.offers
    decide +kernel

/-- `asked` with the requester's levers at 51, just outside the match. -/
def unmatched : State := heard 1 (frame 51 0 0 5) asked

theorem met_ReleaseHandsOverOrFrees :
    (asked.offers 0 6 ∧ asked.station.holder = some 0 ∧ asked.station.requester = some 1
        ∧ asked.passesMatch 1 (frame 0 0 0 5))
      ∧ (unmatched.offers 0 6 ∧ unmatched.station.holder = some 0 ∧ unmatched.station.requester = some 1)
      ∧ (∀ f : HelmFrame, ¬ unmatched.passesMatch 1 f)
      ∧ held.station.requester = none
      ∧ (∀ c : Fin 4, (held.station.inUse.levers[c.val]).natAbs ≤ held.deadBand c)
      ∧ (handover.offers 0 6 ∧ handover.station.holder = some 0 ∧ handover.station.requester = none
        ∧ handover.deadBand 0 < (handover.station.inUse.levers[0]).natAbs) := by
  refine ⟨?_, ?_, no_match _ _ (by decide +kernel), ?_, ?_, ?_⟩ <;>
    (try unfold State.offers) <;> (try unfold State.passesMatch) <;> decide +kernel

theorem met_RefuseEndsTheRequest :
    asked.offers 0 6 ∧ asked.station.holder = some 0 ∧ asked.station.requester = some 1
      ∧ held.offers 0 6 ∧ held.station.requester = none ∧ asked.offers 1 6 ∧ asked.station.holder ≠ some 1 := by
  unfold State.offers
  decide +kernel

/-- `asked` with stations 1 and 2 of class WHEELHOUSE. -/
def wheelhouses : State :=
  (asked.modStation 0 fun x => { x with cls := .wheelhouse }).modStation 1 fun x => { x with cls := .wheelhouse }

theorem met_SeizeTakesCommandForTheEngineRoom :
    (wheelhouses.offers 1 6 ∧ (wheelhouses.stationAt 1).cls = .wheelhouse)
      ∧ (asked.offers 0 6 ∧ (asked.stationAt 0).cls = .engineRoom ∧ asked.station.holder = some 0)
      ∧ (asked.offers 1 6 ∧ (asked.stationAt 1).cls = .engineRoom ∧ asked.station.holder ≠ some 1
        ∧ (asked.stationAt 1).frame = some (frame 0 0 0 5))
      ∧ (free.offers 0 6 ∧ free.station.holder = none ∧ (free.stationAt 0).frame = some (frame 0 0 0 5)) := by
  unfold State.offers
  decide +kernel

/-- `held` with the propulsion tables in use and channel 1 armed, engine 1 its lead. -/
def armed : State :=
  let s := put 1 engineTable (put 2 curveTable held)
  let s := s.modEngine 0 fun g => { g with member := .lead }
  s.withProp { s.prop with sync := s.prop.sync.set 0 true }

theorem met_SyncArmsAndDisarmsAChannel :
    armed.offers 0 6 ∧ armed.station.holder = some 0 ∧ armed.prop.sync[0] = true ∧ (0 : Fin 4) ∈ armed.group 0
      ∧ armed.prop.sync[1] = false ∧ armed.prop.sync[3] = false
      ∧ (put 1 engineTable held).offers 0 6 ∧ (put 1 engineTable held).prop.sync[0] = false
      ∧ (1 : Fin 4) ∈ (put 1 engineTable held).group 0 := by
  unfold State.offers
  decide +kernel


/-- `armed` with engine 2 TRIMMED, both engines CURRENT, engine 1 in gear fault or not. -/
def leading (fault : Bool) : State :=
  (armed.modEngine 0 fun g => { g with standing := .current, gearFault := fault }).modEngine 1 fun g =>
    { g with member := .trimmed, trim := 5, standing := .current }

/-- The lead stays, is lost to engine 2, gives way to engine 1, and is lost with no engine eligible. -/
theorem met_SyncArmsAndDisarmsAChannel_lead :
    ((∀ n : Fin 4, some (0 : Fin 4) = some n ↔ (leading false).leadStands 0 n)
        ∧ ∀ n : Fin 4, some (0 : Fin 4) = some n ↔ (leading false).leadShouldBe 0 n)
      ∧ ((∀ n : Fin 4, some (0 : Fin 4) = some n ↔ (leading true).leadStands 0 n)
        ∧ ∀ n : Fin 4, some (1 : Fin 4) = some n ↔ (leading true).leadShouldBe 0 n)
      ∧ (let s := ((leading false).modEngine 0 fun g => { g with member := .waiting }).modEngine 1 fun g =>
           { g with member := .lead, trim := 0 }
         (∀ n : Fin 4, some (1 : Fin 4) = some n ↔ s.leadStands 0 n)
          ∧ ∀ n : Fin 4, some (0 : Fin 4) = some n ↔ s.leadShouldBe 0 n)
      ∧ (∀ n : Fin 4, (none : Option (Fin 4)) = some n ↔ armed.leadShouldBe 0 n)
      ∧ (leading true).engine? 0 ≠ none ∧ (leading true).engine? 3 = none := by
  unfold State.leadStands State.leadShouldBe
  refine ⟨⟨?_, ?_⟩, ⟨?_, ?_⟩, ⟨?_, ?_⟩, ?_, ?_, ?_⟩ <;> decide +kernel

theorem met_AckAcknowledgesTheHighestCode :
    (free.offers 0 6 ∧ free.highestUnackedIs 44)
      ∧ ((free.withCond {}).offers 0 6
        ∧ ∀ i : Fin 45, ((free.withCond {}).cond.alarm[i.val]).unacked = false) := by
  unfold State.offers State.highestUnackedIs
  decide +kernel

/-! ## Split events -/

theorem met_SplitEventsOutOfPlaceAreAnsweredState :
    (held.offers 0 6 ∧ held.station.holder = some 0 ∧ held.coup.mode ≠ .splitting ∧ held.coup.mode ≠ .split
        ∧ held.coup.mode ≠ .rejoining ∧ (∀ m ∈ held.pollList, m.cutB = false)
        ∧ (∀ c ∈ held.couplingEntries, c.split = false))
      ∧ (divided.offers 0 6 ∧ divided.station.holder = some 0 ∧ divided.coup.mode ≠ .normal)
      ∧ (let s := towed .present .overload .normal held
         s.offers 0 6 ∧ s.station.holder = some 0 ∧ s.coup.records[1]? = some { state := .overload, last := some 1648 }
          ∧ (s.couplingEntries[1]?.map (·.split)) = some true) := by
  unfold State.offers
  decide +kernel

/-- Split mode NORMAL with every coupling MADE, and with the cut B nodes already SILENT. -/
def joined (node : TowNodeState) : State := towed node .made .normal held

/-- `divided` with the cut B nodes heard again. -/
def returned : State :=
  divided.withTowLine { divided.towLine with nodes := List.replicate 3 { state := .present } }

theorem met_SplitAndRecoupleChangeTheMode_split (node : TowNodeState) :
    (joined node).offers 0 6 ∧ (joined node).station.holder = some 0 ∧ (joined node).coup.mode = .normal
      ∧ (∃ m ∈ (joined node).pollList, m.cutB = true)
      ∧ (∃ c ∈ (joined node).couplingEntries, c.split = true)
      ∧ ∀ (i : Nat) (r : Coupling) (c : CouplingEntry), (joined node).coup.records[i]? = some r →
          (joined node).couplingEntries[i]? = some c → c.split = true → r.state = .made ∨ r.state = .slack := by
  refine ⟨?_, rfl, rfl, ⟨makeUpEntryOf makeUpTable 0, ?_, by decide +kernel⟩,
    ⟨couplingEntryOf couplingTable 1, ?_, by decide +kernel⟩, ?_⟩
  · exact ⟨rfl, (by decide : (some 5 : Option Nat) ≠ some (6 % 256))⟩
  · exact (by decide +kernel : makeUpEntryOf makeUpTable 0 ∈ makeUpOf makeUpTable)
  · exact (by decide +kernel : couplingEntryOf couplingTable 1 ∈ couplingsOf couplingTable)
  · intro i r c h _ _
    have := List.mem_of_getElem? h
    exact .inl ((List.eq_of_mem_replicate this) ▸ rfl)

theorem met_SplitAndRecoupleChangeTheMode_recouple :
    (joined .silent).cutBAll .silent = true ∧ (joined .present).cutBAll .silent = false
      ∧ (divided.offers 0 6 ∧ divided.station.holder = some 0 ∧ divided.coup.mode = .split
        ∧ divided.cutBAll .present = false ∧ divided.pollList ≠ [])
      ∧ (returned.cutBAll .present = true ∧ (returned.coup.records[1]?).isSome = true
        ∧ (returned.couplingEntries[1]?.map (·.split)) = some true)
      ∧ (put 6 [] returned).cutBAll .present = true ∧ (put 6 [] returned).couplingEntries = [] := by
  unfold State.offers
  decide +kernel

/-- SPLIT straight to SPLIT and RECOUPLE straight to NORMAL, each behind the first poll of a new cycle; a restart that
is remembered, and one without polling; and a bow node of cut B, which SPLIT makes unusable. -/
theorem met_SplitAndRecoupleChangeTheMode_straight :
    let left (t : State) : SplitMode × List Nat × Bool :=
      (t.coup.mode, t.sent.tow.map (·.dst), t.towLine.restartPending)
    let split (s : State) : State := after (.split (at_ 0) 1 6) s
    let recouple (s : State) : State := after (.recouple (at_ 0) 1 6) s
    let during (s : State) : State :=
      s.withTowLine { s.towLine with complete := false, window := some { entry := 2, closeAt := 400 } }
    let steered := put 3 steeringTable (joined .present)
    left (split (joined .silent)) = (.split, [1], false) ∧ left (recouple (put 6 [] returned)) = (.normal, [1], false)
      ∧ left (split (during (joined .present))) = (.splitting, [], true)
      ∧ left (recouple (returned.withTowLine { returned.towLine with running := false })) = (.rejoining, [], false)
      ∧ steered.bowUsable = true ∧ (split steered).bowUsable = false ∧ (split steered).sourceOf 27 = true
      ∧ (split (joined .silent)).sourceOf 29 = true := by decide +kernel

theorem met_AbortsReturnTheSplitMode :
    (let s := towed .present .opened .splitting held
     s.offers 0 6 ∧ s.station.holder = some 0 ∧ s.coup.mode = .splitting)
      ∧ (let s := towed .present .unmade .rejoining held
         s.offers 0 6 ∧ s.station.holder = some 0 ∧ s.coup.mode = .rejoining) := by
  unfold State.offers
  decide +kernel

/-! ## Station timers -/

/-- `held` with every station timer running. -/
def timed : State :=
  asked.withStation { asked.station with
    orphanTimer := some (sec 5), invalidTimer := Vector.replicate 4 (some (sec 2)) }

theorem met_StationTimersExpire :
    ((State.reset.stationAt 3).silence = none ∧ State.reset.station.transferTimer = none
        ∧ State.reset.station.orphanTimer = none ∧ State.reset.station.invalidTimer[3] = none)
      ∧ ((asked.stationAt 0).silence = some (sec 1) ∧ (asked.stationAt 0).presence = .present
        ∧ asked.station.holder = some 0)
      ∧ ((asked.stationAt 1).silence = some (sec 1) ∧ asked.station.requester = some 1)
      ∧ (asked.station.transferTimer = some (sec 10)
        ∧ timed.station.orphanTimer = some (sec 5) ∧ timed.station.invalidTimer[0] = some (sec 2)
        ∧ timed.station.invalidTimer[3] = some (sec 2)) := by decide +kernel

/-! ## Propulsion and steering -/

/-- An engine engaged AHEAD, in NEUTRAL after it, and SHIFTING toward ASTERN with the phase `p`. -/
def gearIn (gear : GearState) (target : Option Direction) (p : Phase) : Engine :=
  { gear := gear, lastDir := some .ahead, shiftTarget := target, phase := p }

theorem met_GearsEngageOnlyOnceDisengaged :
    (∀ p ∈ [Phase.rpmWait, .complete], (gearIn .ahead none p).gearFormed ∧ (gearIn .neutral none p).gearFormed
        ∧ (gearIn .shifting (some .astern) p).gearFormed)
      ∧ (gearIn .ahead none .rpmWait).gear = Direction.ahead.gear
      ∧ (gearIn .neutral none .rpmWait).lastDir ≠ some .astern := by
  unfold Engine.gearFormed
  decide +kernel

/-- Breakpoints that begin after 0: below them, on each of them and beyond them. -/
theorem met_DemandObeysTheCeilings_curve :
    let points : List (Nat × Nat) := [(30, 10), (600, 500), (1000, 1000)]
    points.Pairwise (fun p q => p.1 < q.1 ∧ p.2 ≤ q.2)
      ∧ (points.head? = some (30, 10) ∧ 29 < 30) ∧ (points.getLast? = some (1000, 1000) ∧ 1000 < 1001)
      ∧ points[0]? = some (30, 10) ∧ points[0 + 1]? = some (600, 500) ∧ 30 ≤ 30 ∧ 600 ≤ 600 := by decide

/-- A member of an armed group at `rpm` engaged AHEAD, of status `m`. -/
def memberOf (m : Member) (rpm : Nat) : Engine :=
  { gear := .ahead, member := m, rpm := some rpm, fresh := true, standing := .current
    flags := some { running := true, alarm := false, local_ := false } }

/-- Each branch of the member evaluation: 150 rpm apart is near enough and 151 is not. -/
theorem met_DemandObeysTheCeilings_members :
    let lead := memberOf .lead 1150
    let g := memberOf .trimmed 1000
    (g.member = .trimmed ∧ g.flags.any (·.local_) = false ∧ g.gearFault = false ∧ g.gear = lead.gear
        ∧ g.standing ≠ .lost ∧ ((1150 : Int) - 1000).natAbs ≤ 150)
      ∧ ¬ ((1151 : Int) - 1000).natAbs ≤ 150
      ∧ { g with gearFault := true }.gearFault = true ∧ { g with standing := .lost }.standing = .lost
      ∧ { g with gear := .neutral }.gear ≠ lead.gear
      ∧ (memberOf .waiting 1000).member = .waiting ∧ (memberOf .dropped 1000).gear = lead.gear := by decide

/-- `engaged` with channel 1 armed, engine 1 its lead, and with engine 1 in gear fault. -/
theorem met_DemandObeysTheCeilings_stages :
    engaged.prop.sync[0] = false ∧ armed.prop.sync[0] = true ∧ (armed.engineAt 0).member = .lead
      ∧ (armed.engineAt 1).member ≠ .lead
      ∧ (engaged.engineAt 0).gearFault = false ∧ (engaged.engineAt 1).gearFault = true
      ∧ (engaged.station.inUse.levers[0]).natAbs ≤ engaged.deadBand 0 := by decide +kernel

theorem met_DemandObeysTheCeilings :
    slotKindOf (slotEntryOf slotTable 0).kind = .exchange ∧ (engaged.engineAt 0).gear = .ahead
      ∧ 16 * (engineEntryOf engineTable 0).idle ≤ (engaged.engineAt 0).setpoint
      ∧ (fitted.engineAt 0).gear = .neutral := by decide +kernel

theorem met_EngineTimersExpire :
    (State.reset.engineAt 3).dwell = none ∧ (State.reset.engineAt 3).confirm = none
      ∧ (engaged.engineAt 0).confirm = some (sec 4)
      ∧ ((engaged.modEngine 3 fun g => { g with phase := .dwell, dwell := some (sec 2) }).engineAt 3).dwell
          = some (sec 2) := by decide +kernel

/-- The bow unit usable and not: its node PRESENT and SILENT, and PRESENT but of cut B while split mode is SPLIT. -/
theorem met_RuddersMoveTowardTheirTarget_bow :
    let a := steerEntryOf steeringTable 6
    let s := towed .present .made .normal fitted
    let silent := towed .silent .made .normal fitted
    (s.actuator? bowIx = some a ∧ a.node = 0 + 1 ∧ s.pollList[0]? = some (makeUpEntryOf makeUpTable 0)
        ∧ (makeUpEntryOf makeUpTable 0).bow = true ∧ s.towNodeState 0 = .present ∧ s.coup.mode = .normal)
      ∧ (silent.actuator? bowIx = some a ∧ ¬ ∃ (i : Nat) (m : MakeUpEntry), a.node = i + 1
          ∧ silent.pollList[i]? = some m ∧ m.bow = true ∧ silent.towNodeState i = .present
          ∧ (silent.coup.mode = .normal ∨ m.cutB = false))
      ∧ State.reset.actuator? bowIx = none := by
  refine ⟨by decide +kernel, ⟨by decide +kernel, ?_⟩, by decide +kernel⟩
  rintro ⟨i, m, h1, -, -, h4, -⟩
  have hi : i = 0 := by
    have : (steerEntryOf steeringTable 6).node = 1 := by decide +kernel
    omega
  subst hi
  revert h4
  decide +kernel

theorem met_RuddersMoveTowardTheirTarget :
    (5 : Fin 7) ≠ bowIx ∧ (0 : Fin 7) ≠ bowIx ∧ isFlanking 2 = true ∧ isFlanking 5 = true ∧ isFlanking 1 = false
      ∧ slotKindOf (slotEntryOf slotTable 2).kind = .exchange := by decide

/-- MR1's record before an observation: in fault or not, with the check active or not. -/
def watched (fault lost : Bool) : State :=
  fitted.modActuator 0 fun x =>
    { x with fault := fault, nodeLost := lost, outStart := if fault then none else some 100
             inStart := if fault then some 100 else none }

theorem met_FollowFaultNeedsASustainedDeviation :
    ((watched false false).actuatorAt 0).nodeLost = false ∧ ((watched true false).actuatorAt 0).fault = true
      ∧ ((watched true true).actuatorAt 0).nodeLost = true
      ∧ (steerEntryOf steeringTable 0).tolerance < ((41 : Int) - ((watched false false).actuatorAt 0).commanded).natAbs
      ∧ ¬ (steerEntryOf steeringTable 0).tolerance
          < ((40 : Int) - ((watched false false).actuatorAt 0).commanded).natAbs
      ∧ (fitted.actuatorAt bowIx).usable ≠ true := by decide +kernel

/-! ## The machinery line -/

/-- `cycling` in the window of the slot `w`. -/
def windowed (w : MachWindow) : State := cycling.withMach { cycling.mach with window := some w }

theorem met_CycleBoundaryBeginsTheNextCycle :
    State.reset.mach.running = false
      ∧ (cycling.mach.running = true ∧ cycling.mach.window = none ∧ cycling.mach.pendingTable = none
        ∧ cycling.tableImage 4 = some slotTable)
      ∧ (cycling.withMach { cycling.mach with pendingTable := some slotTable }).mach.pendingTable = some slotTable := by
  decide +kernel

/-- A pending slot table that keeps engine 2's node, drops engine 1's, and names node 5, a rudder's, as a meter: what
is put in use finds all three PRESENT, node 18 LOST and named no longer, and hands the losses of the first two kinds
of node to their owners. -/
theorem met_CycleBoundaryBeginsTheNextCycle_pending :
    let next := bytes [60, 2, 3, 2, 1, 10, 1, 0, 5, 5, 10, 25, 1, 0]
    let on (i : Fin 30) (x : MachNodeState) (s : State) : State :=
      s.modMachNode i fun n => { n with state := x, good := 2 }
    let s := on 0 .present (on 1 .present (on 4 .present (on 17 .lost (cycling.setSource 28 true))))
    let s := s.modEngine 0 fun g => { g with standing := .current }
    let s := s.modActuator 0 fun a => { a with standing := .active }
    let t := after (.cycleBoundary (at_ 0)) (s.withMach { s.mach with pendingTable := some next })
    contentOf next 1 = none ∧ contentOf next 2 = s.contentKind 2 ∧ contentOf next 5 ≠ s.contentKind 5
      ∧ (t.machNodeAt 0).state = .unknown ∧ (t.machNodeAt 1).state = .present ∧ (t.machNodeAt 4).good = 0
      ∧ (t.engineAt 0).standing = .lost ∧ (t.actuatorAt 0).standing = .suspended ∧ s.sourceOf 28 = true
      ∧ t.sourceOf 28 = false ∧ (t.mach.window.map (·.node)) = some 2 ∧ t.mach.cycleCount = 1
      ∧ t.tableImage 4 = some next := by decide +kernel

/-- The window of engine 1's EXCHANGE slot. -/
def engineWindow : MachWindow := { node := 1, content := 0, kind := .exchange, openAt := 9, closeAt := 109 }

theorem met_WindowCloseRecordsTheMiss :
    State.reset.mach.window = none
      ∧ ((windowed engineWindow).mach.window = some engineWindow
        ∧ (windowed engineWindow).tableImage 4 = some slotTable)
      ∧ (windowed { engineWindow with node := 30, content := 11, kind := .call }).mach.window
          = some { engineWindow with node := 30, content := 11, kind := .call }
      ∧ (windowed { engineWindow with taken := true }).mach.window = some { engineWindow with taken := true } := by
  decide +kernel


/-- The window of a CALL slot to `node` of content `content`, the node PRESENT with two misses behind it, and no slot
left in the cycle. -/
def losing (node content : Nat) : State :=
  let s := (fuelled cycling).modMachNode (Fin.ofNat 30 (node - 1)) fun n => { n with state := .present, misses := 2 }
  s.withMach { s.mach with
    window := some { node := node, content := content, kind := .call, openAt := 9, closeAt := 209 } }

/-- The third miss of an engine's node, a rudder's, a meter's, a gauge's and the pump's: each content's owner, with no
slot behind it and with one that is no engine's. -/
theorem met_WindowCloseRecordsTheMiss_owners :
    (losing 1 0).engine? 0 = some (engineEntryOf engineTable 0) ∧ (engineEntryOf engineTable 0).node = 1
      ∧ (losing 5 4).actuator? 0 = some (steerEntryOf steeringTable 0) ∧ (steerEntryOf steeringTable 0).node = 5
      ∧ (losing 16 10).consumer? 0 = some (consumerEntryOf fuelTable 0) ∧ (consumerEntryOf fuelTable 0).node = 16
      ∧ (losing 18 11).tank? 2 = some (tankEntryOf fuelTable 2) ∧ (tankEntryOf fuelTable 2).gaugeNode = 18
      ∧ (∀ p ∈ [(1, 0), (5, 4), (16, 10), (18, 11), (20, 12)],
          let s := losing p.1 p.2
          let t := after (.machineryWindowClose (at_ 0)) s
          s.tableImage 4 = some slotTable ∧ t.mach.window = none ∧ t.machStateOf p.1 = .lost)
      ∧ (let s := losing 1 0
         let t := after (.machineryWindowClose (at_ 0)) (s.withMach { s.mach with slotsLeft := [2] })
         (t.mach.window.map (·.content)) = some 4) := by decide +kernel

/-- `s` in the window of a COMMAND slot, with one slot left in the cycle, of the row `row` of a slot table. -/
def opening (row : List Nat) (s : State) : State :=
  (put 4 (bytes ([50, 1] ++ row)) s).withMach { s.mach with
    running := true, nextBoundary := ms 50, slotsLeft := [0]
    window := some { node := 30, content := 0, kind := .command, openAt := 9, closeAt := 109 } }

/-- The frame of the slot that opens behind that window: its kind and its payload. -/
def opened (row : List Nat) (s : State) : List (Nat × List Nat) :=
  (after (.machineryWindowClose (at_ 0)) (opening row s)).sent.machinery.map fun f =>
    (f.kind, f.payload.map (·.toNat))

/-- A slot of each content and kind: an engine's EXCHANGE, its COMMAND before the first command and after one, a
rudder's EXCHANGE and COMMAND, the pump's in IDLE and STARTING, a CALL; one that does not fire; and an overrun. -/
theorem met_WindowCloseRecordsTheMiss_slots :
    opened [3, 1, 0, 10, 1, 0] fitted = [(0x11, [2, 88, 0])] ∧ opened [1, 1, 0, 10, 1, 0] fitted = [(0x11, [2, 88, 0])]
      ∧ (let driven := fitted.modEngine 0 fun g => { g with lastCommand := some { rpm := 700, gear := 1 } }
         opened [1, 1, 0, 10, 1, 0] driven = [(0x11, [2, 188, 1])])
      ∧ (let angled := fitted.modActuator 0 fun a => { a with commanded := 30 }
         opened [3, 5, 4, 8, 1, 0] angled = [(0x12, [0, 27])] ∧ opened [1, 5, 4, 8, 1, 0] angled = [(0x12, [0, 30])])
      ∧ opened [1, 20, 12, 15, 1, 0] fitted = [(0x13, [0, 0, 0])]
      ∧ opened [1, 20, 12, 15, 1, 0] started = [(0x13, [1, 2, 5])] ∧ opened [5, 18, 11, 15, 1, 0] fitted = [(0x14, [])]
      ∧ opened [3, 1, 0, 10, 1, 0] .reset = []
      ∧ (after (.machineryWindowClose (at_ (ms 60))) (opening [3, 1, 0, 10, 1, 0] .reset)).lines.machOverruns = 1 := by
  decide +kernel

theorem met_GoodReportsReachTheirRecords :
    engineWindow.kind ≠ .command ∧ engineWindow.taken = false
      ∧ engineWindow.openAt ≤ max (windowed engineWindow).now (at_ 109).time
      ∧ max (windowed engineWindow).now (at_ 109).time ≤ engineWindow.closeAt
      ∧ entriesAgree (reportKindOf engineWindow.content) (bytes [2, 88, 0, 1]) = true
      ∧ (windowed engineWindow).engine? 0 = some (engineEntryOf engineTable 0)
      ∧ (engineEntryOf engineTable 0).node = engineWindow.node
      ∧ cycling.actuator? 0 = some (steerEntryOf steeringTable 0) ∧ (steerEntryOf steeringTable 0).node = 5
      ∧ entriesAgree (reportKindOf 4) (bytes [0, 9]) = true := by decide +kernel

/-- `cycling` with the fuel tables in use, in the window of a CALL slot to `node` of content `content`. -/
def calling (node content : Nat) : State :=
  (fuelled (windowed { node := node, content := content, kind := .call, openAt := 9, closeAt := 209 })).withFuel
    (fuelled cycling).fuel

/-- Each content's clause: a meter report with no entry and with the consumer's, a gauge report of a node that is
not LOST and whose good reports have or have not begun, and a pump report too short for its temperature. -/
theorem met_GoodReportsReachTheirRecords_contents :
    ((calling 16 10).mach.window.map (·.content)) = some 10
      ∧ (calling 16 10).consumer? 0 = some (consumerEntryOf fuelTable 0) ∧ (consumerEntryOf fuelTable 0).node = 16
      ∧ (consumerEntryOf fuelTable 0).entry = 1 ∧ entriesAgree 0x1A (bytes [0]) = true
      ∧ entriesAgree 0x1A (bytes [1, 0, 5, 0, 6, 0, 7]) = true
      ∧ ((calling 18 11).mach.window.map (·.content)) = some 11 ∧ (calling 18 11).machStateOf 18 ≠ .lost
      ∧ ((calling 18 11).machNodeAt 17).good = 0
      ∧ (calling 18 11).tank? 2 = some (tankEntryOf fuelTable 2) ∧ (tankEntryOf fuelTable 2).gaugeNode = 18
      ∧ (tankEntryOf fuelTable 2).gaugeEntry = 1 ∧ entriesAgree 0x1B (bytes [1, 0, 31, 64]) = true
      ∧ u24 (bytes [1, 0, 31, 64]) 1 ≠ 0xFFFFFF
      ∧ ((calling 20 12).mach.window.map (·.content)) = some 12 ∧ entriesAgree 0x1C (bytes [1, 0, 90]) = true
      ∧ (bytes [1, 0, 90]).length < reportFields 12 ∧ (bytes [1, 0, 90, 1, 94]).length = reportFields 12
      ∧ answersNewest (calling 20 12).sent.machinery none := by
  refine ⟨?_, ?_, ?_, ?_, ?_, ?_, ?_, ?_, ?_, ?_, ?_, ?_, ?_, ?_, ?_, ?_, ?_, ?_, answers_none _⟩ <;> decide +kernel

/-- An engine whose node returns with this report, and one whose node does not. -/
theorem met_GoodReportsReachTheirRecords_returns :
    let s := (windowed engineWindow).modMachNode 0 fun n => { n with state := .lost, good := 1 }
    (engineWindow.node = (0 : Fin 30).val + 1 ∧ (s.machNodeAt 0).state ≠ .present ∧ 1 ≤ (s.machNodeAt 0).good)
      ∧ ((windowed engineWindow).machNodeAt 0).good = 0
      ∧ ((windowed engineWindow).engineAt 0).standing = .noReport
      ∧ ((engaged.modEngine 0 fun g => { g with standing := .lost }).engineAt 0).standing ≠ .noReport := by
  decide +kernel


/-- A rudder's report that the slot of another actuator, of content FR1, brings, its node returning and not; a report
of an engine's slot from a rudder's node; and an angle that has never been heard at the node's return. -/
theorem met_GoodReportsReachTheirRecords_nodes :
    let w : MachWindow := { node := 5, content := 6, kind := .exchange, openAt := 9, closeAt := 109 }
    let s := (windowed w).modMachNode 4 fun n => { n with state := .lost, good := 1 }
    s.actuator? 0 = some (steerEntryOf steeringTable 0) ∧ (steerEntryOf steeringTable 0).node = w.node
      ∧ (0 : Fin 7) ≠ bowIx ∧ 4 ≤ w.content ∧ w.content ≤ 9
      ∧ w.node = (4 : Fin 30).val + 1 ∧ (s.machNodeAt 4).state ≠ .present ∧ 1 ≤ (s.machNodeAt 4).good
      ∧ ((windowed w).machNodeAt 4).good = 0 ∧ entriesAgree (reportKindOf w.content) (bytes [0, 9]) = true
      ∧ (windowed { w with content := 0 }).mach.window = some { w with content := 0 }
      ∧ (s.actuatorAt 0).reported = none
      ∧ ((s.modActuator 0 fun x => { x with reported := some 7 }).actuatorAt 0).reported = some 7 := by decide +kernel

/-- A gauge report from a node that is LOST, the first good one and the second, with a level and with no entry for
tank 3: the level is stored while the tank stays LOST, and the node's return makes it CURRENT if the entry was one. -/
theorem met_GoodReportsReachTheirRecords_gauges :
    let lostNode (good : Nat) : State := (calling 18 11).modMachNode 17 fun n => { n with state := .lost, good := good }
    let t (good : Nat) (p : Bytes) : Tank :=
      (after (.machineryReport (at_ 50) 0xFE 18 0x1B p) (lostNode good)).tankRec 2
    (lostNode 0).machStateOf 18 = .lost ∧ entriesAgree 0x1B (bytes [1, 0, 31, 64]) = true
      ∧ entriesAgree 0x1B (bytes [0]) = true
      ∧ (t 0 (bytes [1, 0, 31, 64])).standing = .lost ∧ (t 0 (bytes [1, 0, 31, 64])).level = some 8000
      ∧ (t 1 (bytes [1, 0, 31, 64])).standing = .current ∧ (t 1 (bytes [0])).standing = .lost := by decide +kernel

/-- A poll of entry 3 open, in the middle of a cycle. -/
def polling : State :=
  let s := towed .present .made .normal .reset
  s.withTowLine { s.towLine with complete := false, window := some { entry := 2, closeAt := 400 } }

theorem met_FramesOutOfPlaceAreOnlyCounted :
    (State.reset.enter (at_ 9)).reportWindow = none
      ∧ ((windowed engineWindow).enter (at_ 9)).reportWindow = some engineWindow
      ∧ ((windowed { engineWindow with taken := true }).enter (at_ 109)).reportWindow
          = some { engineWindow with taken := true }
      ∧ entriesAgree (reportKindOf 0) (bytes [2, 88, 0, 1]) = true
      ∧ (State.reset.enter (at_ 9)).openPoll = none
      ∧ (polling.enter (at_ 400)).openPoll = some (2, makeUpEntryOf makeUpTable 2)
      ∧ replyFits (bytes [0, 0, 2, 9, 9]) (makeUpEntryOf makeUpTable 2).channels false = false := by decide +kernel

/-- The last entry's poll ended by its reply, its window and the wait for the next cycle left. -/
def answeredPoll : State :=
  let s := towed .present .made .normal .reset
  (s.withTowLine { s.towLine with spent := some { entry := 2, closeAt := 400 } }).withSent
    { tow := [{ dst := 3, src := 0xFE, kind := 0x20, payload := [] }] }

/-- A frame that answers the only frame the part has sent is late, one that comes after it is not; an ended poll's
window takes stray replies up to its close, and a transaction takes its answer up to its limit. -/
theorem met_FramesOutOfPlaceAreOnlyCounted_ended :
    (¬ answersNewest answeredPoll.sent.tow (some 0)) ∧ answersNewest answeredPoll.sent.tow (some 1)
      ∧ (answeredPoll.enter (at_ 400)).openPoll = none
      ∧ (answeredPoll.enter (at_ 400)).spentPoll = some (2, makeUpEntryOf makeUpTable 2)
      ∧ (answeredPoll.enter (at_ 401)).spentPoll = none
      ∧ replyFits (bytes [0, 0, 1, 9]) (makeUpEntryOf makeUpTable 2).channels false = true := by
  refine ⟨answers_earlier (by decide), ?_, ?_⟩
  · intro k h
    cases h
    decide
  · decide +kernel


/-- Reports in an open window that answer an earlier frame: one from another node, one of another kind, one with a
length that disagrees with its count, and one that fits the window, which has taken its report or has not. -/
theorem met_FramesOutOfPlaceAreOnlyCounted_earlier :
    let w : MachWindow := { node := 18, content := 11, kind := .call, openAt := 9, closeAt := 209 }
    let s := (windowed w).withSent { machinery := [{ dst := 0xFF, src := 0xFE, kind := 0x10, payload := [0, 0, 1] }] }
    (s.enter (at_ 209)).reportWindow = some w ∧ (¬ answersNewest s.sent.machinery (some 0))
      ∧ answersNewest s.sent.machinery (some 1) ∧ (17 : Nat) ≠ w.node ∧ (0x1A : Nat) ≠ reportKindOf w.content
      ∧ entriesAgree (reportKindOf w.content) (bytes [1, 0, 0]) = false
      ∧ entriesAgree (reportKindOf w.content) (bytes [1, 0, 0, 9]) = true
      ∧ w.taken = false
      ∧ ((windowed { w with taken := true }).enter (at_ 9)).reportWindow = some { w with taken := true } := by
  refine ⟨by decide +kernel, answers_earlier (by decide), ?_, ?_⟩
  · intro k h
    cases h
    decide
  · decide +kernel

theorem met_DiscardsCountOnTheirLine :
    State.reset.ownAddress = 0x70 ∧ State.reset.fittedStation 5 = none
      ∧ ((State.reset.modStation 3 fun x => { x with fitted := false }).fittedStation 4) = none
      ∧ (0x71 : Nat) ≠ State.reset.ownAddress
      ∧ State.reset.fittedStation 1 ≠ none ∧ (bytes [1, 2]).length ≠ 15 := by decide +kernel

/-- A run of sound bytes. -/
def heardBytes (l : List Nat) : List RxByte := (bytes l).map fun b => { value := b }

/-- Byte `i` of a run reads sound: it is there, its stop bit holds, and no gap comes before it (R191). -/
def soundAt (run : List RxByte) (i : Nat) : Bool :=
  run[i]?.any fun b => b.stop && (i = 0 || !b.gap)

/-- Each clause of the checks: a byte of the head missing, failed and late; length byte 29 and 28; a body cut
short; a whole frame, and one with bytes after it. -/
theorem met_DiscardsCountOnTheirLine_checks :
    soundAt [] 0 = false ∧ soundAt (heardBytes [1, 2, 3]) 3 = false
      ∧ soundAt [{ value := 1, stop := false }] 0 = false
      ∧ soundAt [{ value := 1 }, { value := 2, gap := true }] 1 = false
      ∧ (∀ i < 4, soundAt (heardBytes [1, 2, 3, 29]) i = true) ∧ 28 < byteAt (bytes [1, 2, 3, 29]) 3
      ∧ byteAt (bytes [1, 2, 3, 28]) 3 ≤ 28 ∧ soundAt (heardBytes [1, 2, 3, 28]) 4 = false
      ∧ (∀ i < 0 + 6, soundAt (heardBytes [1, 2, 3, 0, 9, 9]) i = true)
      ∧ 0 + 6 < (heardBytes [1, 2, 3, 0, 9, 9, 7]).length := by decide

/-! ## The tow line -/

theorem met_PollCycleStartsAtItsDueMoment :
    (State.reset.towLine.running = false)
      ∧ (let s := towed .present .made .normal .reset
         s.towLine.running = true ∧ s.towLine.complete = true ∧ s.towLine.window = none ∧ s.towLine.access = none
          ∧ s.pollList = makeUpEntryOf makeUpTable 0 :: [makeUpEntryOf makeUpTable 1, makeUpEntryOf makeUpTable 2])
      ∧ (put 5 [0] (towed .present .made .normal .reset)).pollList = [] := by decide +kernel


/-- Bindings 0 to 31, plain and inverted, of both profiles' bits 0 and 7. -/
theorem met_PollCycleStartsAtItsDueMoment_outBits :
    let bound (binding : Nat) : State :=
      put 11 (bytes (List.replicate 32 0 ++ [binding] ++ List.replicate 6 1 ++ [binding] ++ List.replicate 120 0)) polling
    let m := makeUpEntryOf makeUpTable 2
    m.profile = 1 ∧ (bound 129).tableImage 11 ≠ none ∧ polling.tableImage 11 = none
      ∧ (bound 1).outBits 2 m = 0xFF ∧ (bound 129).outBits 2 m = 0x7E ∧ (bound 15).outBits 2 m = 0xFF
      ∧ (bound 143).outBits 2 m = 0x7E ∧ (bound 128).outBits 2 m = 0xFF := by decide +kernel

theorem met_PollWindowCloseRecordsTheMiss :
    State.reset.towLine.window = none ∧ polling.towLine.window = some { entry := 2, closeAt := 400 }
      ∧ polling.towLine.complete = false ∧ polling.pollList ≠ [] := by decide +kernel


/-- The poll of entry `i` open, its node `n`, with the tables of the steering unit and the discrete inputs in use. -/
def asking (i : Nat) (n : TowNode) : State :=
  let s := put 11 (bytes (List.replicate 160 0)) (towed .present .made .normal fitted)
  s.withTowLine { s.towLine with
    complete := false, pos := i + 1, window := some { entry := i, closeAt := 400 }, nodes := s.towLine.nodes.set i n }

/-- The third miss of a PRESENT node, the bow node's and another's, of a SILENT one, and a second miss. -/
theorem met_PollWindowCloseRecordsTheMiss_turned :
    (∀ i ∈ [0, 2], (asking i { state := .present, missed := 2 }).towLine.nodes[i]?
        = some { state := .present, missed := 2 })
      ∧ (after (.pollWindowClose (at_ 0)) (asking 0 { state := .present, missed := 2 })).isBowNode 0 = true
      ∧ (asking 2 { state := .present, missed := 2 }).isBowNode 2 = false
      ∧ (asking 2 { state := .silent, missed := 3 }).towLine.nodes[2]? = some { state := .silent, missed := 3 }
      ∧ (asking 2 { state := .present, missed := 1 }).towLine.nodes[2]? = some { state := .present, missed := 1 } := by
  decide +kernel

/-- How the line goes on: the next poll, a new cycle's first poll, the bow node's, by a restart and by the due moment,
a waiting node transaction, and a wait. -/
theorem met_PollWindowCloseRecordsTheMiss_goesOn :
    let closes (i : Nat) (f : TowLine → TowLine) : State :=
      let s := asking i { state := .present }
      after (.pollWindowClose (at_ 0)) (s.withTowLine (f s.towLine))
    let left (t : State) : Option (Nat × Nat) × Option Nat :=
      (t.sent.tow.head?.map fun f => (f.kind, f.dst), t.towLine.window.map (·.entry))
    let access : NodeAccess := { address := 3, write := true, offset := 8, length := 1, data := [7] }
    left (closes 0 id) = (some (0x20, 2), some 1)
      ∧ left (closes 1 fun l => { l with restartPending := true }) = (some (0x20, 1), some 0)
      ∧ ((closes 1 fun l => { l with restartPending := true }).actuatorAt bowIx).lastComputation = some 400
      ∧ left (after (.pollWindowClose (at_ (ms 250))) (asking 2 { state := .present })) = (some (0x20, 1), some 0)
      ∧ left (closes 1 fun l => { l with access := some access }) = (some (0x22, 3), none)
      ∧ ((closes 1 fun l => { l with access := some access }).sent.tow.map fun f => f.payload.map (·.toNat))
          = [[1, 8, 1, 7]]
      ∧ left (closes 2 id) = (none, none) ∧ (closes 2 id).towLine.complete = true := by decide +kernel

theorem met_GoodRepliesReachTheNodeRecord :
    polling.towLine.window = some { entry := 2, closeAt := 400 } ∧ polling.towLine.complete = false
      ∧ max polling.now (at_ 400).time ≤ 400 ∧ polling.pollList[2]? = some (makeUpEntryOf makeUpTable 2)
      ∧ replyFits (bytes [0, 0, 1, 9]) (makeUpEntryOf makeUpTable 2).channels (makeUpEntryOf makeUpTable 2).bow = true
      ∧ replyFits (bytes [0, 0, 129, 9, 0, 4]) (makeUpEntryOf makeUpTable 0).channels
          (makeUpEntryOf makeUpTable 0).bow = true := by decide +kernel


/-- The bow node's reply that makes it PRESENT, that keeps it so, and that makes it FAULT; another node's; and the
poll of the next entry behind each. -/
theorem met_GoodRepliesReachTheNodeRecord_handOvers :
    let reply (code : Nat) (s : State) : State :=
      after (.pollReply (at_ 100) 0xFE 1 (bytes [code, 0, 129, 9, 0, 4])) s
    let masked := put 11 (bytes (List.replicate 8 0 ++ [2] ++ List.replicate 151 0))
    let back := asking 0 { state := .silent, good := 2 }
    back.towNodeState 0 = .silent ∧ (reply 0 back).towNodeState 0 = .present
      ∧ back.actuator? bowIx = some (steerEntryOf steeringTable 6) ∧ back.isBowNode 0 = true
      ∧ (back.actuatorAt bowIx).usable = false ∧ (reply 0 back).bowUsable = true
      ∧ ((reply 0 back).towLine.window.map (·.entry)) = some 1
      ∧ (reply 0 (asking 0 { state := .present })).towNodeState 0 = .present
      ∧ (reply 65 (masked (asking 0 { state := .present }))).towNodeState 0 = .fault
      ∧ (asking 2 {}).isBowNode 2 = false := by decide +kernel

/-- A READ of four bytes of node 3, and the state in which it is in flight. -/
def access : NodeAccess := { address := 3, write := false, offset := 0, length := 4, data := [] }

def inFlight : State :=
  let s := requested 0x0C 7 (bytes [3, 0, 0, 4]) polling
  s.withTowLine { s.towLine with
    complete := true, window := none, access := some { access with deadline := some 20000 } }

theorem met_NodeTransactionsEndOneWay :
    State.reset.accessInFlight = none
      ∧ inFlight.towLine.access = some { access with deadline := some 20000 } ∧ inFlight.towLine.window = none
      ∧ inFlight.store.queue = request 0x0C (bytes [3, 0, 0, 4]) :: [] ∧ inFlight.pollList ≠ []
      ∧ inFlight.towLine.complete = true ∧ max inFlight.now (at_ 20000).time ≤ 20000
      ∧ (bytes [1, 2, 3, 4]).length = access.length ∧ answersNewest inFlight.sent.tow none := by
  refine ⟨?_, ?_, ?_, ?_, ?_, ?_, ?_, ?_, answers_none _⟩ <;> decide +kernel

theorem met_FramesOutOfPlaceAreOnlyCounted_access :
    (inFlight.enter (at_ 20000)).openPoll = none
      ∧ inFlight.accessInFlight = some ({ access with deadline := some 20000 }, 20000)
      ∧ (inFlight.enter (at_ 20000)).now ≤ 20000 ∧ 20000 < (inFlight.enter (at_ 20001)).now
      ∧ (4 : Nat) ≠ access.address ∧ answerFits access [] = false
      ∧ State.reset.accessInFlight = none ∧ (State.reset.enter (at_ 0)).spentPoll = none := by decide +kernel

/-! ## Couplings -/

theorem met_ReadingsMoveTheCouplingRecord :
    (∀ x ∈ [CouplingState.unknown, .unmade, .made, .slack, .overload, .parted],
        ({ state := x, last := some 1000 } : Coupling).state ≠ .opened)
      ∧ (couplingEntryOf couplingTable 0).rated ≤ 2000 ∧ ¬ (couplingEntryOf couplingTable 0).slack ≤ 149
      ∧ (couplingEntryOf couplingTable 0).slack ≤ 150
      ∧ 500 * (couplingEntryOf couplingTable 0).rated ≤ 1000 * 1000
      ∧ polling.couplingAt 2 0 = some (2, couplingEntryOf couplingTable 2) ∧ polling.couplingAt 2 1 = none := by
  decide +kernel


/-- A reading that moves the record and one that does not, the last cut B node's silence in SPLITTING and return in
REJOINING, and a node's FAULT. -/
theorem met_ReadingsMoveTheCouplingRecord_changed :
    let state (s : State) : Option CouplingState := (s.coup.records[2]?).map (·.state)
    let splitting := towed .silent .opened .splitting .reset
    let rejoining := towed .present .made .rejoining .reset
    state (polling.couplingReading 2 0 (.tension 2000)) ≠ state polling
      ∧ state (polling.couplingReading 2 0 (.tension 1000)) = state polling
      ∧ (splitting.coup.mode = .splitting ∧ splitting.cutBAll .silent = true)
      ∧ (rejoining.coup.mode = .rejoining ∧ rejoining.cutBAll .present = true
          ∧ (rejoining.couplingNodeChange 0 .present 0).splitsMade = true)
      ∧ state (polling.couplingNodeChange 2 (.fault) 65) = some .unknown := by decide +kernel

/-- The ratio 824 contributes and is the largest; without a record nothing contributes. -/
theorem met_TowCeilingFollowsTensionAndLimits :
    (polling.coup.records[0]? = some { state := .made, last := some 1648 }
        ∧ polling.couplingEntries[0]? = some (couplingEntryOf couplingTable 0)
        ∧ 1648 * 1000 / (couplingEntryOf couplingTable 0).rated = 824
        ∧ polling.towLimits.k < 824 ∧ 824 < polling.towLimits.u)
      ∧ State.reset.coup.records = [] := by decide +kernel

theorem met_RejoinSaveAndScrubTimersExpire :
    State.reset.coup.rejoinStart = none
      ∧ (State.reset.withCoup { State.reset.coup with mode := .rejoining, rejoinStart := some 5 }).coup.rejoinStart
          = some 5
      ∧ (at_ 0).readBack.failed = [] ∧ Region.fuel ∉ (at_ 0).readBack.failed
      ∧ Region.fuel ∈ (failing .fuel).readBack.failed
      ∧ (State.reset.slot State.reset.store.scrubNext).valid = false
      ∧ ((put 0 [0] .reset).slot (put 0 [0] .reset).store.scrubNext).valid = true
      ∧ (put 0 [0] .reset).store.retained.tables[0] = none
      ∧ crc16 (RetainedTable.image { image := [0], crc := 0 }) = 0xE1F0 := by decide +kernel

/-! ## Fuel and transfer -/

theorem met_IncrementsAreBookedWhole :
    0 < (consumerEntryOf fuelTable 0).k ∧ (∀ j : Fin 12, ((fuelled .reset).tankRec j).book.balanced)
      ∧ (∃ r : Run, started.transfer.run = some r ∧ r.source = (1 : Fin 12).val + 1 ∧ r.dest = (4 : Fin 12).val + 1)
      ∧ (1 : Fin 12) ≠ 4 ∧ (started.tank? 1).isSome = true ∧ (started.tank? 4).isSome = true
      ∧ ∀ x : Fin 12, (started.tankRec x).book.balanced := by
  refine ⟨by decide +kernel, ?_, ⟨_, rfl, by decide +kernel, by decide +kernel⟩, by decide, by decide +kernel,
    by decide +kernel, ?_⟩ <;>
    unfold Book.balanced <;> decide +kernel

/-- Consumer 1 with a valid baseline or none, a held estimate or none, and two misses behind it. -/
def fed (valid : Bool) (held : Option HeldEstimate) : State :=
  (fuelled fitted).modConsumer 0 fun c => { c with baseValid := valid, gap := 2, held := held }

theorem met_MeterEntriesAreMeasuredOrEstimated :
    let h : HeldEstimate := { net := 144, factor := 975100 }
    let e := consumerEntryOf fuelTable 0
    (((fed true none).consumerAt 0).baseValid = true ∧ ((fed true none).consumerAt 0).held = none)
      ∧ ((fed true (some h)).consumerAt 0).held = some h
      ∧ (((fed false (some h)).consumerAt 0).baseValid = false ∧ ((fed false none).consumerAt 0).held = none)
      ∧ ((2 + 1 < 16 ∧ (1200 + 65536 - 0) % 65536 ≤ e.glitch * (2 + 1))
        ∧ ¬ (1201 + 65536 - 0) % 65536 ≤ e.glitch * (2 + 1)) := by decide +kernel

theorem met_GaugeEntriesSetTheTank : (8000 : Nat) ≠ 0xFFFFFF ∧ (tankEntryOf fuelTable 2).low = 8000 := by
  decide +kernel

/-- Readings of a tank whose node is LOST: a level above the capacity and the code 0xFFFFFF. -/
theorem met_GaugeEntriesSetTheTank_lost :
    let t (v : Nat) : Tank := (State.reset.gaugeTank 2 (tankEntryOf fuelTable 2) true (some v)).tankRec 2
    (t 50000).standing = .lost ∧ (t 50000).level = some 40000 ∧ (t 0xFFFFFF).standing = .lost
      ∧ (t 0xFFFFFF).level = none := by decide +kernel

/-- Engine 1's feed tank, tank 3, NORMAL, in LOWLOW with and without the general table, and EMPTY; an engine without a
present feed tank; and one that is not present. -/
theorem met_GaugeEntriesSetTheTank_ceiling :
    let flagged (lowLow empty : Bool) : State :=
      (fuelled fitted).modTank 2 fun t => { t with lowLowFlag := lowLow, emptyFlag := empty }
    (flagged false false).engine? 0 = some (engineEntryOf engineTable 0)
      ∧ (flagged false false).tankAt? (engineEntryOf engineTable 0).feedTank = some (2, tankEntryOf fuelTable 2)
      ∧ (flagged true false).cFeed 0 = 500 ∧ (flagged true true).cFeed 0 = 0 ∧ (flagged false false).cFeed 0 = 1000
      ∧ (put 12 (bytes [0, 250, 2, 88, 1, 2]) (flagged true false)).cFeed 0 = 600
      ∧ fitted.tankAt? (engineEntryOf engineTable 0).feedTank = none ∧ fitted.engine? 3 = none := by decide +kernel

/-- A request of station 1 with 0 or more fuel fields can be served with and without table 9. -/
theorem met_FuelRequestsAreAnsweredInOrder_served (fields : Bytes) :
    (fields.length = 5 → (requested 0x09 7 fields (fuelled .reset)).canServe (request 0x09 fields) (some .fuel))
      ∧ (fields.length = 6 → (requested 0x0A 7 fields (fuelled .reset)).canServe (request 0x0A fields) (some .fuel))
      ∧ (fields.length = 1 → (requested 0x0B 7 fields (fuelled .reset)).canServe (request 0x0B fields) (some .fuel))
      ∧ (fields.length = 5 → (requested 0x09 7 fields .reset).canServe (request 0x09 fields) (some .fuel)) := by
  refine ⟨fun h => ?_, fun h => ?_, fun h => ?_, fun h => ?_⟩ <;>
    exact served _ _ _ _ rfl rfl rfl (by rw [h]; rfl)

theorem met_FuelRequestsAreAnsweredInOrder_clauses :
    State.reset.tableImage 8 = none ∧ (fuelled .reset).tableImage 8 ≠ none
      ∧ (fuelled .reset).tankAt? 1 = none ∧ (fuelled .reset).tankAt? 13 = none
      ∧ (fuelled .reset).tankAt? 5 = some (4, tankEntryOf fuelTable 4)
      ∧ u32 (bytes ([5] ++ n4 20000000)) 1 ≤ (tankEntryOf fuelTable 4).capacity * 1000
      ∧ (tankEntryOf fuelTable 4).capacity * 1000 < u32 (bytes ([5] ++ n4 20000001)) 1
      ∧ (fuelled .reset).classOf 1 = .engineRoom ∧ (wheelhouses.classOf 1 ≠ .engineRoom)
      ∧ (fuelled .reset).inRun 5 = false ∧ started.inRun 5 = true
      ∧ ((fuelled .reset).tankRec 4).standing ≠ .current
      ∧ (ready.tankRec 4).standing = .current ∧ (ready.tankRec 4).level = some 15200
      ∧ (fuelled .reset).consumer? 0 ≠ none ∧ (fuelled .reset).consumer? 5 = none := by decide +kernel

theorem met_StartTransferTestsInOrder_served (fields : Bytes) (h : fields.length = 6) :
    (requested 0x07 7 fields ready).canServe (request 0x07 fields) (some .fuel)
      ∧ (requested 0x07 7 fields (ready.withTransfer { ready.transfer with state := .running })).canServe
          (request 0x07 fields) (some .fuel)
      ∧ (requested 0x07 7 fields (fuelled .reset)).canServe (request 0x07 fields) (some .fuel) := by
  refine ⟨?_, ?_, ?_⟩ <;> exact served _ _ _ _ rfl rfl rfl (by rw [h]; rfl)

theorem met_StartTransferTestsInOrder_clauses :
    (ready.withTransfer { ready.transfer with state := .running }).transfer.state ≠ .idle
      ∧ ready.transfer.state = .idle ∧ ((2, 5) : Nat × Nat) ∈ ready.permissionPairs
      ∧ ((5, 2) : Nat × Nat) ∉ ready.permissionPairs
      ∧ (ready.gaugeCurrent 2 = true ∧ ready.gaugeCurrent 5 = true ∧ ready.pumpPresent = true)
      ∧ (((2, 5) : Nat × Nat) ∈ (fuelled .reset).permissionPairs ∧ (fuelled .reset).gaugeCurrent 2 = false)
      ∧ (u32 (bytes ([2, 5] ++ n4 1000000)) 2 = 1000000 ∧ ready.freeSpace 5 = 4800)
      ∧ u32 (bytes ([2, 5] ++ n4 1000001)) 2 = 1000001
      ∧ Region.transfer ∉ (at_ 0).readBack.failed ∧ Region.transfer ∈ (failing .transfer).readBack.failed := by
  decide +kernel

/-- Rule 1 fills tank 5 from tank 2, and rule 2 tank 3; tank 5 at 5950 L, its low mark 6000 and band 400. -/
def autoTable : Bytes :=
  bytes ([1, 2, 5] ++ [1, 5, 2] ++ [1, 3, 2] ++ List.replicate 6 0 ++ n2 500 ++ [70] ++ n2 2000)

def refilling : State := gauged 4 5950 (put 9 autoTable ready)

/-- An auto start that starts, and that is refused by each of its tests. -/
theorem met_StartTransferTestsInOrder_autoStart :
    let rule : RefillRule := { enabled := 1, dayTank := 5, source := 2 }
    refilling.refillRule? 0 = some rule ∧ refilling.tankAt? 5 = some (4, tankEntryOf fuelTable 4)
      ∧ ((2, 5) : Nat × Nat) ∈ refilling.permissionPairs
      ∧ (refilling.gaugeCurrent 2 = true ∧ refilling.gaugeCurrent 5 = true ∧ refilling.pumpPresent = true)
      ∧ ((tankEntryOf fuelTable 4).high - ((refilling.tankRec 4).level.getD 0) = 12050
        ∧ refilling.freeSpace 5 ≠ 0)
      ∧ ((2, 3) : Nat × Nat) ∉ refilling.permissionPairs
      ∧ refilling.refillRule? 1 = some { enabled := 1, dayTank := 3, source := 2 }
      ∧ (refilling.modTank 4 fun t => { t with standing := .lost }).gaugeCurrent 5 = false
      ∧ (tankEntryOf fuelTable 4).high - (((gauged 4 18000 refilling).tankRec 4).level.getD 0) = 0 := by
  decide +kernel

/-- Rule 1 waiting in IDLE and holding, or with its tank too full, or with no rule enabled. -/
def awaiting (s : State) : State :=
  s.withTransfer { s.transfer with rules := s.transfer.rules.set 0 { waiting := true } }

theorem met_StartTransferTestsInOrder_waitingRule :
    (awaiting refilling).transfer.state = .idle ∧ ((awaiting refilling).transfer.rules[0]).waiting = true
      ∧ (tankEntryOf fuelTable 4).role = roleDay ∧ ((awaiting refilling).tankRec 4).standing = .current
      ∧ ((awaiting refilling).tankRec 4).level.getD 0 ≤ (tankEntryOf fuelTable 4).low
      ∧ ¬ ((awaiting (gauged 4 6001 refilling)).tankRec 4).level.getD 0 ≤ (tankEntryOf fuelTable 4).low
      ∧ (awaiting ready).refillRule? 0 = none ∧ ((awaiting ready).transfer.rules[0]).waiting = true
      ∧ (refilling.transfer.rules[0]).waiting = false ∧ started.transfer.state ≠ .idle := by decide +kernel

/-- The readings of rule 1's tank: at the low mark 6000, just above it, just below the mark plus the band, at it. -/
theorem met_StartTransferTestsInOrder_examineRule :
    let tank := tankEntryOf fuelTable 4
    refilling.refillRule? 0 = some { enabled := 1, dayTank := (4 : Fin 12).val + 1, source := 2 }
      ∧ refilling.refillRule? 2 = none ∧ refilling.refillRule? 1 ≠ none
      ∧ tank.role = roleDay ∧ (tankEntryOf fuelTable 1).role ≠ roleDay
      ∧ (6000 ≤ tank.low ∧ (refilling.transfer.rules[0]).latch = false)
      ∧ (tank.low < 6001 ∧ 6399 < tank.low + tank.band ∧ tank.low + tank.band ≤ 6400)
      ∧ refilling.transfer.state = .idle ∧ refilling.sourceOf 42 = false
      ∧ (refilling.setSource 42 true).sourceOf 42 = true := by decide +kernel

theorem met_AbortAndStopEnterTheTrailer_abort :
    (requested 0x08 7 [] { started with store := State.reset.store }).canServe (request 0x08 []) (some .fuel)
      ∧ started.transfer.state = .starting
      ∧ (requested 0x08 7 [] State.reset).canServe (request 0x08 []) (some .fuel)
      ∧ State.reset.transfer.state = .idle :=
  ⟨served _ _ _ _ rfl rfl rfl rfl, by decide +kernel, served _ _ _ _ rfl rfl rfl rfl, rfl⟩

theorem met_AbortAndStopEnterTheTrailer_stop :
    free.offers 0 6 ∧ free.transfer.state = .idle
      ∧ (free.withTransfer started.transfer).offers 0 6
      ∧ (free.withTransfer started.transfer).transfer.state = .starting
      ∧ (free.withTransfer (pumped started 90).transfer).transfer.state = .running := by
  unfold State.offers
  decide +kernel

/-- Run 417 stopped, with its trailer timer running. -/
def trailing : State := after (.transferStop (at_ 0) 1 6) (heard 0 (frame 0 0 0 5) started)

theorem met_RunTimersEndTheRun :
    State.reset.transfer.state ≠ .starting ∧ State.reset.transfer.state ≠ .trailer
      ∧ started.transfer.confirmTimer = some (sec 5) ∧ started.transfer.run.isSome = true
      ∧ trailing.transfer.state = .trailer ∧ trailing.transfer.trailerTimer = some (sec 10)
      ∧ (trailing.transfer.run.map (·.cause)) = some (some .stop)
      ∧ ∀ x : Fin 4, (trailing.transfer.rules[x.val]).waiting = false := by decide +kernel

/-- The pump meter of `s` with the baseline `b` and the gap `gap`. -/
def metered (b : Option Nat) (gap : Nat) (s : State) : State :=
  s.withTransfer { s.transfer with pump := { s.transfer.pump with baseline := b, gap := gap } }

/-- The pump constants, and a count taken first, accepted at the glitch bound 2000 over the gap, and rejected beyond
it or at the sixteenth report; each in a state of every run state. -/
theorem met_RunTimersEndTheRun_pump :
    trailing.pumpConstants? = some { k := 500, alpha := 70, glitch := 2000 }
      ∧ (metered none 0 started).transfer.pump.baseline = none
      ∧ ((metered (some 65000) 1 started).transfer.pump.baseline = some 65000
        ∧ (3464 + 65536 - 65000) % 65536 = 4000 ∧ 1 + 1 < 16 ∧ 4000 ≤ 2000 * (1 + 1))
      ∧ ((3465 + 65536 - 65000) % 65536 = 4001 ∧ ¬ 4001 ≤ 2000 * (1 + 1)) ∧ ¬ 15 + 1 < 16
      ∧ ready.transfer.state = .idle ∧ started.transfer.state = .starting
      ∧ ((pumped started 90).transfer.state = .running ∧ (pumped started 90).transfer.run.isSome = true)
      ∧ (trailing.transfer.state = .trailer ∧ trailing.transfer.run.isSome = true)
      ∧ trailing.transfer.zeroCount = 0 ∧ State.reset.pumpConstants? = none := by decide +kernel

/-- A running run short of its target with both marks free, at its target, at the high mark, and at the low mark. -/
theorem met_RunTimersEndTheRun_causes :
    let s := pumped started 90
    let moved (s : State) : Int := (s.transfer.run.map (·.moved)).getD 0
    let target (s : State) : Nat := (s.transfer.run.map (·.target)).getD 0
    moved s < target s * 1000 ∧ (s.tankRec 4).level.getD 0 < (tankEntryOf fuelTable 4).high
      ∧ (tankEntryOf fuelTable 1).low < (s.tankRec 1).level.getD 0
      ∧ ((target (pumped (started.withTransfer { started.transfer with
          run := started.transfer.run.map fun r => { r with target := 0 } }) 90) : Int) * 1000 ≤ 0)
      ∧ (tankEntryOf fuelTable 4).high ≤ ((gauged 4 18000 s).tankRec 4).level.getD 0
      ∧ ((gauged 1 10000 s).tankRec 1).level.getD 0 ≤ (tankEntryOf fuelTable 1).low
      ∧ s.tankAt? 5 = some (4, tankEntryOf fuelTable 4) ∧ s.tankAt? 2 = some (1, tankEntryOf fuelTable 1) := by
  decide +kernel

/-! ## Conditions -/

theorem met_AlarmStatesFollowTheTable :
    State.reset.cond.alarmsFollow ∧ State.reset.cond.alarm[44] = .activeUnacked
      ∧ State.reset.cond.alarm[0] = .normal
      ∧ (State.reset.acknowledge 44).cond.alarmsFollow
      ∧ (State.reset.acknowledge 44).cond.alarm[44] = .activeAcked
      ∧ (State.reset.setSource 45 false).cond.alarmsFollow
      ∧ (State.reset.setSource 45 false).cond.alarm[44] = .clearedUnacked := by
  unfold CondUnit.alarmsFollow
  decide +kernel

/-- The two alarm pins in each mode, with both lines asserted and with neither. -/
theorem met_AlarmStatesFollowTheTable_pins :
    let general (modes : List Nat) : State := put 12 (bytes (n2 2000 ++ n2 1000 ++ modes)) (put 10 reactionTable .reset)
    let quiet (s : State) : State := s.acknowledge 44
    State.reset.tableImage 12 = none
      ∧ (∀ x ∈ [([0, 2], 0, 2), ([1, 0], 1, 0), ([2, 1], 2, 1)],
          ((general x.1).tableImage 12).map (fun b => (byteAt b 4, byteAt b 5)) = some (x.2.1, x.2.2))
      ∧ (∀ lineB : Bool, (general [2, 2]).lineAsserted lineB = true ∧ (general [2, 2]).alarmPin lineB = .low
          ∧ (quiet (general [2, 2])).lineAsserted lineB = false ∧ (quiet (general [2, 2])).alarmPin lineB = .high
          ∧ (general [0, 0]).alarmPin lineB = .notDriven ∧ (quiet (general [1, 1])).alarmPin lineB = .notDriven) := by
  decide +kernel

theorem met_NextAlarmReadsOutTheHighestCode :
    (requested 0x06 7 [] State.reset).canServe (request 0x06 []) none
      ∧ (requested 0x06 7 [] State.reset).highestUnackedIs 44
      ∧ (requested 0x06 7 [] (State.reset.withCond {})).canServe (request 0x06 []) none
      ∧ ∀ i : Fin 45, ((requested 0x06 7 [] (State.reset.withCond {})).cond.alarm[i.val]).unacked = false := by
  refine ⟨served _ _ _ _ rfl rfl rfl rfl, ?_, served _ _ _ _ rfl rfl rfl rfl, by decide +kernel⟩
  unfold State.highestUnackedIs
  decide +kernel

/-! ## Requests and tables -/

/-- A station table that gives station 1 no right. -/
def rightless : State := put 0 (bytes [1, 1, 0, 0]) .reset

theorem met_RequestsArriveOrAreTurnedAway :
    let full := State.reset.withStore { State.reset.store with queue := List.replicate 4 (request 0x06 []) }
    ((State.reset.stationAt 3).fitted = true ∧ State.reset.store.queue.length < 4 ∧ 4 ≤ full.store.queue.length)
      ∧ (requested 0x00 7 [] State.reset).atHead (request 0x00 [])
      ∧ (requested 0x0F 7 [] State.reset).atHead (request 0x0F [])
      ∧ (requested 0x04 7 [] State.reset).atHead (request 0x04 [])
      ∧ (requested 0x08 7 [] rightless).atHead (request 0x08 [])
      ∧ (requested 0x08 7 [] rightless).holdsRight 1 .fuel = false
      ∧ (bytes [6]).length < 2 ∧ ([] : Bytes).length < 2
      ∧ (State.reset.withStore { State.reset.store with queue := [{ request 0x06 [] with short := true }] }).atHead
          { request 0x06 [] with short := true } := by
  unfold State.atHead
  decide +kernel

theorem met_ReadoutsAnswerAndCountersClear :
    let read := bytes [11, 0, 246, 24]
    ((requested 0x04 7 read (put 10 reactionTable .reset)).canServe (request 0x04 read) none
        ∧ byteAt read 0 = (10 : Fin 13).val + 1
        ∧ u16 read 1 + byteAt read 3 ≤ ((put 10 reactionTable .reset).slot 10).image.length
        ∧ ((put 10 reactionTable .reset).slot 10).valid = true)
      ∧ (requested 0x04 7 (bytes [14, 0, 0, 0]) .reset).canServe (request 0x04 (bytes [14, 0, 0, 0])) none
      ∧ ((requested 0x05 7 (bytes [1, 4, 0]) .reset).canServe (request 0x05 (bytes [1, 4, 0])) none
        ∧ ((requested 0x05 7 (bytes [1, 4, 0]) .reset).enter (at_ 0)).record? 1 4 ≠ none
        ∧ ((requested 0x05 7 (bytes [1, 4, 0]) .reset).enter (at_ 0)).record? 1 5 = none)
      ∧ (requested 0x0D 7 [] State.reset).canServe (request 0x0D []) (some .sys)
      ∧ (requested 0x0E 7 [] State.reset).canServe (request 0x0E []) (some .sys) := by
  refine ⟨⟨served _ _ _ _ rfl rfl rfl (by decide +kernel), ?_⟩, served _ _ _ _ rfl rfl rfl rfl,
    ⟨served _ _ _ _ rfl rfl rfl rfl, ?_⟩, served _ _ _ _ rfl rfl rfl rfl, served _ _ _ _ rfl rfl rfl rfl⟩
  · decide +kernel
  · decide +kernel

theorem met_TowNodeAccessIsTestedThenTaken_served (fields : Bytes) (h1 : 4 ≤ fields.length) (h2 : fields.length ≤ 20) :
    (requested 0x0C 7 fields polling).canServe (request 0x0C fields) (some .nav)
      ∧ (requested 0x0C 7 fields (towed .present .made .normal .reset)).canServe (request 0x0C fields) (some .nav)
      ∧ (requested 0x0C 7 fields .reset).canServe (request 0x0C fields) (some .nav) := by
  have h : fieldsFit 0x0C fields.length = true := by simp [fieldsFit, h1, h2]
  refine ⟨?_, ?_, ?_⟩ <;> exact served _ _ _ _ rfl rfl rfl h

theorem met_TowNodeAccessIsTestedThenTaken_clauses :
    State.reset.tableImage 5 = none ∧ polling.tableImage 5 ≠ none
      ∧ (∃ m ∈ polling.pollList, m.address = 3) ∧ (∀ m ∈ polling.pollList, m.address ≠ 4)
      ∧ polling.towLine.window.isSome = true
      ∧ (towed .present .made .normal .reset).towLine.window = none
      ∧ (1 ≤ byteAt (bytes [3, 0, 0, 1]) 3 ∧ byteAt (bytes [3, 0, 0, 16]) 3 ≤ 16
        ∧ (bytes [3, 0, 0, 1]).drop 4 = [])
      ∧ (bytes [3, 1, 0, 1, 9]).drop 4 = [9] ∧ 1 < byteAt (bytes [3, 2, 0, 1]) 1 := by decide +kernel

/-- Station `owner` owns the buffer, loading table 8. -/
def loading (owner : Nat) (waiting : Option WaitingLoad) : State :=
  State.reset.withStore { State.reset.store with
    buffer := some { owner := owner, table := 8, bytes := List.replicate 13 0, deadline := sec 5 }
    waitingLoad := waiting }

/-- A BEGIN of station `station` that waits. -/
def waits (station : Nat) : WaitingLoad := { station := station, tag := 3, table := 8, length := 13 }

theorem met_LoadBeginTakesTheBufferOrWaits_served (fields : Bytes) (h : fields.length = 3) :
    (requested 0x01 7 fields .reset).canServe (request 0x01 fields) none
      ∧ (requested 0x01 7 fields rightless).atHead (request 0x01 fields)
      ∧ ∀ (owner : Nat) (waiting : Option WaitingLoad),
          (requested 0x01 7 fields (loading owner waiting)).canServe (request 0x01 fields) none := by
  refine ⟨served _ _ _ _ rfl rfl rfl (by rw [h]; rfl), ⟨rfl, rfl, rfl⟩, fun owner waiting => ?_⟩
  exact served _ _ _ _ rfl rfl rfl (by rw [h]; rfl)

theorem met_LoadBeginTakesTheBufferOrWaits_clauses :
    State.reset.store.buffer = none
      ∧ (((loading 1 none).store.buffer.map (·.owner)) = some 1 ∧ (loading 2 none).store.waitingLoad = none)
      ∧ (loading 2 (some (waits 1))).store.waitingLoad = some (waits 1)
      ∧ (loading 2 (some (waits 3))).store.waitingLoad = some (waits 3)
      ∧ State.reset.holdsRight 1 (tableGroup 8) = true ∧ rightless.holdsRight 1 (tableGroup 8) = false
      ∧ largestImage 8 = 64 ∧ largestImage 8 < 65 := by decide +kernel

theorem met_LoadsFillTheBufferAndAreChecked_served (fields : Bytes) (owner : Nat) :
    (3 ≤ fields.length → fields.length ≤ 26 →
        (requested 0x02 7 fields (loading owner none)).canServe (request 0x02 fields) none)
      ∧ (fields.length = 2 → (requested 0x03 7 fields (loading owner none)).canServe (request 0x03 fields) none) := by
  refine ⟨fun h1 h2 => ?_, fun h => ?_⟩
  · exact served _ _ _ _ rfl rfl rfl (by simp [fieldsFit, h1, h2])
  · exact served _ _ _ _ rfl rfl rfl (by rw [h]; rfl)

/-- A BEGIN that waits when the inactivity timer runs out is taken, or refused, against the free buffer. -/
theorem met_LoadBeginTakesTheBufferOrWaits_timeout :
    let t (w : WaitingLoad) : State := after (.loadInactivityTimeout (at_ 0)) (loading 1 (some w))
    (t (waits 2)).store.buffer = some (openedBuffer (sec 5) 2 8 13)
      ∧ ((t { waits 2 with table := 14 }).tx.replies.map (·.status)) = [.range]
      ∧ (t { waits 2 with table := 14 }).store.buffer = none := by decide +kernel

/-- The images and states of LOAD END's branches: a bad and a good tow limits image, a make-up load in SPLIT, and
a slot table with and without a running cycle. -/
theorem met_LoadsFillTheBufferAndAreChecked_clauses :
    let limits := bytes (n2 700 ++ n2 950 ++ n2 300 ++ n2 50 ++ n2 400 ++ [4] ++ n2 600)
    (2 + 11 ≤ (List.replicate 13 (0 : Byte)).length ∧ (List.replicate 13 (0 : Byte)).length < 3 + 11)
      ∧ State.reset.tableChecks 7 (List.replicate 13 0) = false
      ∧ (State.reset.tableChecks 7 limits = true ∧ State.reset.applyPoint 7 limits = true)
      ∧ (State.reset.tableChecks 5 [0] = true ∧ divided.applyPoint 5 [0] = false)
      ∧ (cycling.tableChecks 4 slotTable = true ∧ cycling.applyPoint 4 slotTable = true
        ∧ cycling.mach.running = true)
      ∧ (fitted.tableChecks 4 slotTable = true ∧ fitted.mach.running = false)
      ∧ Region.table ((7 : Fin 13).val + 1) ∈ (failing (.table 8)).readBack.failed := by decide +kernel

/-- The apply points: nobody holds command and every present engine rests at idle in NEUTRAL, or not. -/
theorem met_LoadsFillTheBufferAndAreChecked_applyPoints :
    (State.reset.station.holder = none ∧ State.reset.station.requester = none) ∧ held.station.holder ≠ none
      ∧ (fitted.modEngine 0 fun g => { g with setpoint := 9600 }).engine? 0 = some (engineEntryOf engineTable 0)
      ∧ 16 * (engineEntryOf engineTable 0).idle = 9600 ∧ (engaged.engineAt 0).gear ≠ .neutral
      ∧ divided.coup.mode ≠ .normal ∧ (joined .present).coup.mode = .normal
      ∧ (fuelled .reset).consumer? 0 = presentConsumer fuelTable 0
      ∧ ((fuelled .reset).consumerAt 0).account.total = 0 ∧ started.transfer.state ≠ .idle
      ∧ State.reset.tableChecks 0 (bytes [1, 4, 1, 15]) = true
      ∧ State.reset.tableChecks 12 (bytes (n2 2000 ++ n2 1000 ++ [2, 2])) = true := by decide +kernel

/-- Each table's checks are met by an image and, but for one byte changed, by none: a channel 5, a breakpoint above
1000, an actuator's node 0, a node of two contents, a make-up address of 0, a coupling on node 0, a present byte of
2, a pair from a tank to itself, a code out of order, and a mask that takes code 0. -/
theorem met_LoadsFillTheBufferAndAreChecked_checks :
    ∀ x ∈ ([(1, engineTable, 2, 5), (2, curveTable, 6, 255), (3, steeringTable, 10, 0), (4, slotTable, 9, 1),
        (5, makeUpTable, 1, 0), (6, couplingTable, 1, 0), (8, fuelTable, 0, 2), (9, transferTable, 2, 2),
        (10, reactionTable, 0, 2), (11, List.replicate 160 0, 0, 255)] : List (Fin 13 × Bytes × Nat × Nat)),
      State.reset.tableChecks x.1 x.2.1 = true
        ∧ State.reset.tableChecks x.1 (x.2.1.set x.2.2.1 (byte x.2.2.2)) = false := by decide +kernel

/-- Each comparison with a table in use that an image fails, its own checks met: engines on other nodes than the slot
table's, a rudder interlocked with an engine that is not present, and couplings on a node that the make-up lacks. -/
theorem met_LoadsFillTheBufferAndAreChecked_compared :
    let nodes := bytes ([2] ++ engineRow 9 3 ++ engineRow 2 3 ++ List.replicate 30 0)
    let none_ := bytes ([2] ++ List.replicate 60 0)
    (put 4 slotTable .reset).tableChecks 1 engineTable = true ∧ (put 4 slotTable .reset).tableChecks 1 nodes = false
      ∧ ((State.reset.withMach { State.reset.mach with pendingTable := some slotTable }).tableChecks 1 nodes = false)
      ∧ (put 3 steeringTable .reset).tableChecks 1 none_ = false
      ∧ (put 1 none_ .reset).tableChecks 3 steeringTable = false ∧ (put 1 nodes .reset).tableChecks 4 slotTable = false
      ∧ (put 4 (slotTable.set 21 (byte 5)) .reset).tableChecks 3 steeringTable = false
      ∧ (put 5 (bytes [1, 1, 1, 1, 25, 1]) .reset).tableChecks 6 couplingTable = false
      ∧ (put 6 couplingTable .reset).tableChecks 5 (bytes [1, 1, 1, 1, 25, 1]) = false := by decide +kernel

/-- What a table application finds: a station entered and left out; an engine that keeps its node, changes it, or
leaves; actuators that keep their node; tow tables in NORMAL, with and without entries; a rejoin timer before and
at its new end; a meter and a gauge kept, changed and taken away. -/
theorem met_LoadsFillTheBufferAndAreChecked_owners :
    let stations := bytes [1, 4, 1, 15]
    let b := bytes (n2 700 ++ n2 950 ++ n2 300 ++ n2 50 ++ n2 400 ++ [4] ++ n2 600)
    ((parseStations stations).find? (fun e => e.address = 4)).isSome = true
      ∧ (∀ e ∈ parseStations stations, e.address ≠ 1)
      ∧ (presentEngine engineTable 0 = some (engineEntryOf engineTable 0) ∧ presentEngine engineTable 3 = none)
      ∧ (fitted.engine? 0 = some (engineEntryOf engineTable 0) ∧ (engineEntryOf engineTable 0).node = 1)
      ∧ ((presentEngine (bytes ([2] ++ engineRow 9 3 ++ List.replicate 45 0)) 0).map (·.node)) = some 9
      ∧ presentActuator steeringTable 0 = fitted.actuator? 0 ∧ presentActuator steeringTable 1 = none
      ∧ (joined .present).coup.mode = .normal ∧ (joined .present).tableImage 5 ≠ none
      ∧ (put 5 [0] (joined .present)).pollList = [] ∧ State.reset.tableImage 5 = none
      ∧ (sec (u16 b 11) = 60000000 ∧ (State.reset.enter (at_ 60000000)).now = 0 + sec (u16 b 11))
      ∧ presentConsumer fuelTable 0 = some (consumerEntryOf fuelTable 0)
      ∧ presentTank fuelTable 2 = some (tankEntryOf fuelTable 2) ∧ presentTank fuelTable 0 = none
      ∧ (tankEntryOf fuelTable 2).gaugeNode ≠ 0 ∧ State.reset.tank? 2 = none := by decide +kernel

/-- What the applications of tables 4, 6, 7 and 2 find: a BOW actuator whose node is ready and one whose node is not;
a poll list whose first entry is the bow node's and one that is empty; and a feed tank in LOWLOW that only the table
applied makes an engine's. -/
theorem met_LoadsFillTheBufferAndAreChecked_applied :
    let bow := steerEntryOf steeringTable bowIx
    let applied (id : Fin 13) (b : Bytes) (s : State) : State := (s.takeImage id b).applyTable s id
    let n := put 3 steeringTable (joined .present)
    let low := ((fuelled .reset).modTank 2 fun t => { t with lowLowFlag := true })
    presentActuator steeringTable bowIx = some bow
      ∧ ((applied 3 steeringTable (joined .present)).actuatorAt bowIx).usable = true
      ∧ (applied 3 steeringTable (joined .silent)).sourceOf 27 = true
      ∧ n.coup.mode = .normal ∧ (applied 5 makeUpTable n).isBowNode 0 = true
      ∧ (applied 5 makeUpTable n).sourceOf 27 = true ∧ (applied 5 makeUpTable n).sent.tow.length = 1
      ∧ (applied 5 [0] n).isBowNode 0 = false ∧ (applied 5 [0] n).sent.tow = []
      ∧ low.sourceOf 38 = false ∧ (applied 1 engineTable low).sourceOf 39 = true := by decide +kernel

/-- A slot table loaded while no cycle runs begins the first cycle. -/
theorem met_LoadsFillTheBufferAndAreChecked_atOnce :
    let crc := beBytes 2 (crc16 slotTable)
    let s := requested 0x03 7 crc (fitted.withStore { fitted.store with
      buffer := some { owner := 1, table := 5, bytes := slotTable, deadline := sec 5 } })
    let t := after (.loadEnd (at_ 0) 1 7 crc) s
    s.mach.running = false ∧ s.tableChecks 4 slotTable = true ∧ s.applyPoint 4 slotTable = true
      ∧ t.mach.running = true ∧ t.mach.cycleCount = 0 ∧ (t.mach.window.map (·.node)) = some 1
      ∧ (t.tx.replies.map (·.status)) = [.ok] := by decide +kernel

/-! ## The station line -/

/-- A reply of the head request, and the sending side with `n` follow-up frames and that reply waiting. -/
def reply : Reply := (request 0x06 []).reply .ok [0, 0, 0, 0] true

def sending (n : Nat) (replies : List Reply) (after : AfterReply) : State :=
  let s := requested 0x06 7 [] State.reset
  (s.withStore { s.store with head := .answered after }).withTx { replies := replies, followUps := n }

theorem met_StationFramesLeaveAtIdleGaps :
    let f : Frame := { dst := 1, src := 0x70, kind := 3, payload := [] }
    let again := State.reset.withTx { retry := some f, last := some { frame := f, second := true } }
    (again.tx.retry = some f ∧ again.tx.last = some { frame := f, second := true })
      ∧ (State.reset.tx.retry = none ∧ State.reset.tx.followUps = 0 ∧ State.reset.tx.replies = []
        ∧ State.reset.tx.last = none)
      ∧ ((sending 1 [] .nothing).tx.followUps ≠ 0 ∧ (sending 1 [] .nothing).tx.replies = [])
      ∧ ((sending 0 [reply] .restart).tx.replies = reply :: [] ∧ reply.head = true
        ∧ (sending 0 [reply] .restart).store.head = .answered .restart
        ∧ (sending 0 [reply] .freeBuffer).store.waitingLoad = none)
      ∧ (sending 1 [{ reply with head := false }] .nothing).tx.followUps ≠ 0 := by decide +kernel

/-- The reply of a LOAD END and of a refused BEGIN of the owner's while the BEGIN `w` waits: one that then passes, one
of no table, one without the right, and one too long. -/
theorem met_StationFramesLeaveAtIdleGaps_waiting :
    let s (after : AfterReply) (w : WaitingLoad) : State :=
      let s := sending 0 [reply] after
      s.withStore { s.store with waitingLoad := some w, buffer := (loading 1 none).store.buffer }
    let t (after : AfterReply) (w : WaitingLoad) : State := Tests.after (.stationLineIdleGap (at_ 0)) (s after w)
    State.reset.holdsRight 2 (tableGroup 8) = true ∧ rightless.holdsRight 2 (tableGroup 8) = false
      ∧ (t .freeBuffer (waits 2)).store.buffer = some (openedBuffer 0 2 8 13)
      ∧ (t .takeWaiting (waits 2)).store.waitingLoad = none
      ∧ (∀ w ∈ [{ waits 2 with table := 0 }, { waits 2 with length := 65 }],
          ((t .freeBuffer w).tx.replies.map (·.status)) = [.range] ∧ (t .freeBuffer w).store.buffer = none) := by
  decide +kernel

end Sys2Proof.Tests
end

section
/-! PROOFS. Helm stations and command authority (chapter 1): RELEASE, REFUSE and SEIZE as their station takes
them (R8 to R10, R12). -/

namespace Sys2Proof.Machine

/-! ## An event that has been taken -/

/-- An offered RELEASE acts on the state in which its event has been taken (R4, R8). -/
theorem exec_release_offered {s : State} {n : Fin 4} {count : Nat} (e : Env) (h : s.offers n count) :
    exec (.release e (n.val + 1) count) s = .next ((s.tookEvent e n count).releaseCommand n) :=
  congrArg Host.Outcome.next (eventFrom_offers h .release)

/-- An offered REFUSE acts on the state in which its event has been taken (R4, R10). -/
theorem exec_refuse_offered {s : State} {n : Fin 4} {count : Nat} (e : Env) (h : s.offers n count) :
    exec (.refuse e (n.val + 1) count) s = .next ((s.tookEvent e n count).refuseRequest n) :=
  congrArg Host.Outcome.next (eventFrom_offers h .refuse)

/-- An offered SEIZE acts on the state in which its event has been taken (R4, R12). -/
theorem exec_seize_offered {s : State} {n : Fin 4} {count : Nat} (e : Env) (h : s.offers n count) :
    exec (.seize e (n.val + 1) count) s = .next ((s.tookEvent e n count).seizeCommand n) :=
  congrArg Host.Outcome.next (eventFrom_offers h .seize)

/-- Taking an event moves the sender's baseline alone. -/
theorem took_stationAt (s : State) (e : Env) (n : Fin 4) (count : Nat) (m : Fin 4) :
    (s.tookEvent e n count).stationAt m =
      if n = m then { s.stationAt m with baseline := some (count % 256) } else s.stationAt m :=
  stationAt_mod (s.enter e) n m _

/-- Taking an event keeps every station's last valid frame. -/
@[simp] theorem took_frame (s : State) (e : Env) (n : Fin 4) (count : Nat) (m : Fin 4) :
    ((s.tookEvent e n count).stationAt m).frame = (s.stationAt m).frame := by
  rw [took_stationAt]
  split <;> rfl

/-- Taking an event keeps every station's class. -/
@[simp] theorem took_cls (s : State) (e : Env) (n : Fin 4) (count : Nat) (m : Fin 4) :
    ((s.tookEvent e n count).stationAt m).cls = (s.stationAt m).cls := by
  rw [took_stationAt]
  split <;> rfl

/-- Writing an event result keeps every station's last valid frame. -/
@[simp] theorem setResult_frameAt (s : State) (n : Fin 4) (r : EventResult) (m : Fin 4) :
    ((s.setResult n r).stationAt m).frame = (s.stationAt m).frame := by
  rw [State.setResult, stationAt_mod]
  split <;> rfl

/-! ## RELEASE (R8, R9) -/

/-- A RELEASE with a request pending is decided by the requester's match test (R8). -/
theorem releaseCommand_requested {s : State} {n r : Fin 4} (hholder : s.station.holder = some n)
    (hreq : s.station.requester = some r) :
    s.releaseCommand n =
      if s.matchTest r then (s.becomeHolder r).setResult n .accepted
      else (s.setResult n .mismatch).setResult r .mismatch := by
  simp only [State.releaseCommand, hholder, hreq, if_true]

/-- A RELEASE with no request pending is decided by the levers in use (R9). -/
theorem releaseCommand_unrequested {s : State} {n : Fin 4} (hholder : s.station.holder = some n)
    (hreq : s.station.requester = none) :
    s.releaseCommand n =
      if s.leversInDeadBand then ((s.setHolder none).zeroValues).setResult n .accepted
      else s.setResult n .state := by
  simp only [State.releaseCommand, hholder, hreq, if_true]

/-- The test of R9: a lever in use at the very edge of its channel's dead band still lies within it. -/
theorem leversInDeadBand_iff (s : State) :
    s.leversInDeadBand = true ↔ ∀ c : Fin 4, (s.station.inUse.levers[c.val]).natAbs ≤ s.deadBand c := by
  simp [State.leversInDeadBand, Bank.indices]

/-- What the end of command by RELEASE leaves (R9): no holder, every value in use 0 with no invalid timer and no lever
fault, and ACCEPTED for the sender. -/
def State.becameFree (s t : State) (n : Fin 4) : Prop :=
  t.station = { (s.setResult n .accepted).station with
      holder := none, inUse := {}, invalidTimer := Vector.replicate 4 none
      leverFault := Vector.replicate 4 false }
    ∧ t.sourceOf 6 = false ∧ s.condsBut t [6] ∧ s.sameBut t [.station, .cond]

/-- A holder that gives up command with every value in use set to 0 leaves the form FREE (R9). -/
theorem becameFree_zeroValues (s : State) (n : Fin 4) :
    s.becameFree (((s.setHolder none).zeroValues).setResult n .accepted) n := by
  obtain ⟨hstation, hfault, hconds⟩ := zeroValues_spec (s.setHolder none)
  refine ⟨?_, hfault, hconds, fun p hp => ?_⟩
  · rw [(setResult_frame _ n .accepted).2, hstation]
    rfl
  · cases p <;> simp_all [State.agree, State.setHolder]

/-- Settles O19: after the event is taken, the two forms of R8 and R9 by the pending request. -/
theorem releaseHandsOverOrFrees : Obligations.ReleaseHandsOverOrFrees := by
  unfold Obligations.ReleaseHandsOverOrFrees
  intro e s n count hoffers hholder u step
  have hstep : step = .next (u.releaseCommand n) := exec_release_offered e hoffers
  have hmatch (r : Fin 4) : u.matchTest r = true ↔ ∃ f, s.passesMatch r f := by
    rw [took_matchTest, matchTest_iff]
  have hlevers : u.leversInDeadBand = true ↔
      ∀ c : Fin 4, (s.station.inUse.levers[c.val]).natAbs ≤ s.deadBand c := leversInDeadBand_iff u
  refine ⟨fun r hreq => ?_, fun hreq => ?_⟩
  · rw [hstep, releaseCommand_requested (s := u) hholder hreq]
    refine ⟨fun f hpass => ⟨u.becomeHolder r, ?_, ?_⟩, fun hfail => ?_⟩
    · rw [if_pos ((hmatch r).2 ⟨f, hpass⟩)]
    · exact becomeHolder_spec u r f ((took_frame s e n count r).trans hpass.1)
    · rw [if_neg fun h => ((hmatch r).1 h).elim hfail]
  · rw [hstep, releaseCommand_unrequested (s := u) hholder hreq]
    refine ⟨fun hin => ⟨_, congrArg _ (if_pos (hlevers.2 hin)), becameFree_zeroValues u n⟩, ?_⟩
    rintro ⟨c, hout⟩
    rw [if_neg fun h => absurd (hlevers.1 h c) (by omega)]

/-! ## REFUSE (R10) -/

/-- Settles O20: the three cases of R10 by holder and pending request. -/
theorem refuseEndsTheRequest : Obligations.RefuseEndsTheRequest := by
  unfold Obligations.RefuseEndsTheRequest
  intro e s n count hoffers u step
  have hstep : step = .next (u.refuseRequest n) := exec_refuse_offered e hoffers
  have hu : u.station.holder = s.station.holder ∧ u.station.requester = s.station.requester := ⟨rfl, rfl⟩
  rw [hstep, State.refuseRequest, hu.1, hu.2]
  refine ⟨fun hholder => ⟨fun r hreq => ?_, fun hreq => ?_⟩, fun hother => ?_⟩
  · rw [if_pos hholder, hreq]
  · rw [if_pos hholder, hreq]
  · rw [if_neg hother]

/-! ## SEIZE (R12) -/

/-- A SEIZE from a WHEELHOUSE is answered CLASS. -/
theorem seizeCommand_wheelhouse {s : State} {n : Fin 4} (hcls : (s.stationAt n).cls = .wheelhouse) :
    s.seizeCommand n = s.setResult n .class := by
  simp [State.seizeCommand, hcls]

/-- A SEIZE from the holder, an ENGINE ROOM station, only ends a pending request. -/
theorem seizeCommand_holder {s : State} {n : Fin 4} (hcls : (s.stationAt n).cls = .engineRoom)
    (hholder : s.station.holder = some n) : s.seizeCommand n = (s.seizeRequest n).setResult n .accepted := by
  simp [State.seizeCommand, hcls, hholder]

/-- A SEIZE from another ENGINE ROOM station makes it holder. -/
theorem seizeCommand_other {s : State} {n : Fin 4} (hcls : (s.stationAt n).cls = .engineRoom)
    (hholder : s.station.holder ≠ some n) :
    s.seizeCommand n = ((s.seizeRequest n).seizeHolder).becomeHolder n := by
  simp [State.seizeCommand, hcls, hholder]

/-- Ending a request by SEIZE keeps the holder. -/
@[simp] theorem seizeRequest_holder (s : State) (n : Fin 4) :
    (s.seizeRequest n).station.holder = s.station.holder := by
  unfold State.seizeRequest
  split
  · rfl
  · split <;> rfl

/-- Ending a request by SEIZE keeps every station's last valid frame. -/
@[simp] theorem seizeRequest_frameAt (s : State) (n m : Fin 4) :
    ((s.seizeRequest n).stationAt m).frame = (s.stationAt m).frame := by
  unfold State.seizeRequest
  split
  · rfl
  · split
    · rfl
    · exact setResult_frameAt _ _ _ _

/-- Ending a holding by SEIZE keeps every station's last valid frame. -/
@[simp] theorem seizeHolder_frameAt (s : State) (m : Fin 4) :
    ((s.seizeHolder).stationAt m).frame = (s.stationAt m).frame := by
  unfold State.seizeHolder
  split
  · rfl
  · exact setResult_frameAt _ _ _ _

/-- Settles O21: the cases of R12 by the sender's class and the holder; the two states the statement names are those
after the request and after the holding have ended. -/
theorem seizeTakesCommandForTheEngineRoom : Obligations.SeizeTakesCommandForTheEngineRoom := by
  unfold Obligations.SeizeTakesCommandForTheEngineRoom
  intro e s n count hoffers u step
  have hstep : step = .next (u.seizeCommand n) := exec_seize_offered e hoffers
  have hucls : (u.stationAt n).cls = (s.stationAt n).cls := took_cls s e n count n
  refine ⟨fun hcls => ?_, fun hcls v hv => ⟨fun hholder => ?_, fun x f hother hframe hx => ?_⟩⟩
  · rw [hstep, seizeCommand_wheelhouse (hucls.trans hcls)]
  · have hvu : v = u.seizeRequest n := hv
    rw [hstep, seizeCommand_holder (hucls.trans hcls) hholder, hvu]
  · have hvu : v = u.seizeRequest n := hv
    have hvh : v.station.holder = s.station.holder := by rw [hvu, seizeRequest_holder, took_holder]
    have hxv : x = v.seizeHolder := by
      rw [State.seizeHolder, hvh]
      exact hx
    refine ⟨x.becomeHolder n, ?_, becomeHolder_spec x n f ?_⟩
    · rw [hstep, seizeCommand_other (hucls.trans hcls) hother, hxv, hvu]
    · rw [hxv, hvu, seizeHolder_frameAt, seizeRequest_frameAt, took_frame, hframe]

end Sys2Proof.Machine
end

section
/-! PROOFS. Propulsion demand and engine synchronisation (chapter 2): the lever curve (R39), the member evaluation
(R45, R47), the stages of a demand computation (R38, R41), and what it leaves (R42, R43). -/

namespace Sys2Proof.Machine

/-! ## The lever curve (R39) -/

/-- Breakpoints as R25 admits them: x rises strictly and y never falls. -/
def CurveRises (points : List (Nat × Nat)) : Prop := points.Pairwise fun p q => p.1 < q.1 ∧ p.2 ≤ q.2

/-- On the first breakpoint the curve gives that breakpoint's y. -/
theorem curveAt_first {p : Nat × Nat} {rest : List (Nat × Nat)} (h : CurveRises (p :: rest)) :
    curveAt p.1 (p :: rest) = p.2 := by
  cases rest with
  | nil => rfl
  | cons q rest =>
    have hx : p.1 ≤ q.1 := (List.rel_of_pairwise_cons h List.mem_cons_self).1.le
    simp [curveAt, hx]

/-- From its second breakpoint on, a curve is the curve without its first: the two lines that meet there agree. -/
theorem curveAt_tail {m : Nat} {p q : Nat × Nat} {rest : List (Nat × Nat)} (h : CurveRises (p :: q :: rest))
    (hm : q.1 ≤ m) : curveAt m (p :: q :: rest) = curveAt m (q :: rest) := by
  obtain ⟨hx, hy⟩ := List.rel_of_pairwise_cons h List.mem_cons_self
  have hp : ¬ m < p.1 := by omega
  rw [curveAt, if_neg hp]
  split
  · obtain rfl : m = q.1 := by omega
    rw [curveAt_first h.tail, Nat.mul_div_cancel _ (by omega)]
    omega
  · rfl

/-- Below its first breakpoint a curve gives the first y. -/
theorem curveAt_below {m : Nat} {p : Nat × Nat} {points : List (Nat × Nat)} (hp : points.head? = some p)
    (hm : m < p.1) : curveAt m points = p.2 := by
  match points, hp with
  | [_], rfl => rfl
  | _ :: _ :: _, rfl => exact if_pos hm

/-- No breakpoint of a curve lies beyond its last. -/
theorem CurveRises.le_last {p q : Nat × Nat} {points : List (Nat × Nat)} (h : CurveRises points) (hq : q ∈ points)
    (hp : points.getLast? = some p) : q.1 ≤ p.1 := by
  obtain ⟨init, rfl⟩ := List.getLast?_eq_some_iff.1 hp
  rcases List.mem_append.1 hq with hq | hq
  · exact ((List.pairwise_append.1 h).2.2 q hq p List.mem_cons_self).1.le
  · rw [List.mem_singleton.1 hq]

/-- Beyond its last breakpoint a curve gives the last y. -/
theorem curveAt_beyond {m : Nat} {p : Nat × Nat} {points : List (Nat × Nat)} (h : CurveRises points)
    (hp : points.getLast? = some p) (hm : p.1 < m) : curveAt m points = p.2 := by
  induction points with
  | nil => simp at hp
  | cons a rest ih =>
    cases rest with
    | nil =>
      obtain rfl : a = p := by simpa using hp
      rfl
    | cons b rest =>
      have hlast : (b :: rest).getLast? = some p := by simpa using hp
      have hb : b.1 ≤ p.1 := CurveRises.le_last h.tail List.mem_cons_self hlast
      rw [curveAt_tail h (by omega)]
      exact ih h.tail hlast

/-- Between two neighbouring breakpoints a curve is the straight line through them, truncated. -/
theorem curveAt_between {m i : Nat} {p q : Nat × Nat} {points : List (Nat × Nat)} (h : CurveRises points)
    (hp : points[i]? = some p) (hq : points[i + 1]? = some q) (hpm : p.1 ≤ m) (hmq : m ≤ q.1) :
    curveAt m points = p.2 + (q.2 - p.2) * (m - p.1) / (q.1 - p.1) := by
  induction points generalizing i with
  | nil => simp at hp
  | cons a rest ih =>
    cases rest with
    | nil => simp at hq
    | cons b rest =>
      cases i with
      | zero =>
        obtain rfl : a = p := by simpa using hp
        obtain rfl : b = q := by simpa using hq
        rw [curveAt, if_neg (by omega), if_pos hmq]
      | succ i =>
        have hp' : (b :: rest)[i]? = some p := by simpa using hp
        have hbp : b.1 ≤ p.1 := by
          rcases List.mem_cons.1 (List.mem_of_getElem? hp') with rfl | hmem
          · exact le_refl _
          · exact (List.rel_of_pairwise_cons h.tail hmem).1.le
        rw [curveAt_tail h (by omega)]
        exact ih h.tail hp' (by simpa using hq)

/-! ## The member evaluation (R45, R47) -/

/-- The stored LOCAL flag, as the report flags show it. -/
theorem isLocal_eq (g : Engine) : g.isLocal = g.flags.any (·.local_) := by
  unfold Engine.isLocal
  cases g.flags <;> rfl

/-- The gear test of R47 against the group's lead, which an engine without a lead fails. -/
def Engine.gearMet (lead : Option Engine) (g : Engine) : Bool := lead.any fun l => gearTest g.gear l.gear

/-- The speed test of R47 against the group's lead, which an engine without a lead fails. -/
def Engine.speedMet (lead : Option Engine) (g : Engine) : Bool := lead.any fun l => speedTest g.rpm l.rpm

/-- The trim step of R45 on an engine that is TRIMMED after its member evaluation. -/
def Engine.followLead (k : Nat) (lead : Option Engine) (g : Engine) : Engine :=
  match lead, g.rpm with
  | some l, some own =>
    match l.rpm with
    | some led => if g.fresh && l.fresh then { g with trim := trimStep k led own g.trim } else g
    | none => g
  | _, _ => g

/-- The gear test asks for the lead's gear, and that it be a direction. -/
theorem gearMet_iff (lead : Option Engine) (g : Engine) :
    g.gearMet lead = true ↔
      ∃ l : Engine, lead = some l ∧ g.gear = l.gear ∧ (g.gear = .ahead ∨ g.gear = .astern) := by
  cases lead <;> simp [Engine.gearMet, gearTest]

/-- The speed test asks for measured speeds at most 150 rpm apart. -/
theorem speedMet_iff (lead : Option Engine) (g : Engine) :
    g.speedMet lead = true ↔ ∃ (l : Engine) (own led : Nat),
      (lead = some l ∧ g.rpm = some own ∧ l.rpm = some led) ∧ ((led : Int) - own).natAbs ≤ 150 := by
  cases lead with
  | none => simp [Engine.speedMet]
  | some l => cases hg : g.rpm <;> cases hl : l.rpm <;> simp [Engine.speedMet, speedTest, hg, hl]

/-- The trim step toward a lead at `led` rpm of an engine at `own` rpm (R45). -/
theorem followLead_eq {k own led : Nat} {lead : Option Engine} {g l : Engine} (hlead : lead = some l)
    (hown : g.rpm = some own) (hled : l.rpm = some led) :
    g.followLead k lead =
      { g with
        trim := if g.fresh = true ∧ l.fresh = true then
            max (-800) (min 800 (g.trim + ((led : Int) - own) * k))
          else g.trim } := by
  simp only [Engine.followLead, hlead, hown, hled, Bool.and_eq_true]
  split
  · rfl
  · rw [← hown]

/-- The tests of a TRIMMED engine, in the order of R47. -/
theorem evalMember_trimmed {k : Nat} {eligible : Bool} {lead : Option Engine} {g : Engine}
    (h : g.member = .trimmed) :
    Engine.evalMember k eligible lead g =
      if g.isLocal || g.gearFault then g.asMember .dropped
      else if !g.gearMet lead then g.asMember .waiting
      else if g.standing = .lost then g
      else if !g.speedMet lead then g.asMember .dropped
      else g.followLead k lead := by
  cases g
  cases h
  cases lead <;> rfl

/-- The rejoining of a WAITING or DROPPED engine (R47). -/
theorem evalMember_apart {k : Nat} {eligible : Bool} {lead : Option Engine} {g : Engine}
    (h : g.member = .waiting ∨ g.member = .dropped) :
    Engine.evalMember k eligible lead g =
      if eligible && g.gearMet lead && g.speedMet lead then (g.asMember .trimmed).followLead k lead
      else { g with trim := 0 } := by
  cases g
  rcases h with h | h <;> cases h <;> cases lead <;> rfl

section
variable {k : Nat} {eligible : Bool} {lead : Option Engine} {g : Engine}

/-- A TRIMMED engine under LOCAL or in gear fault drops (R47). -/
theorem evalMember_drops_out (h : g.member = .trimmed) (hout : g.flags.any (·.local_) = true ∨ g.gearFault = true) :
    Engine.evalMember k eligible lead g = { g with member := .dropped, trim := 0 } := by
  rw [evalMember_trimmed h, isLocal_eq, if_pos (Bool.or_eq_true _ _ ▸ hout)]
  rfl

/-- A TRIMMED engine in service that fails the gear test waits (R47). -/
theorem evalMember_waits (h : g.member = .trimmed) (hlocal : g.flags.any (·.local_) = false)
    (hfault : g.gearFault = false) (hgear : g.gearMet lead = false) :
    Engine.evalMember k eligible lead g = { g with member := .waiting, trim := 0 } := by
  simp [evalMember_trimmed h, isLocal_eq, hlocal, hfault, hgear, Engine.asMember]

/-- A TRIMMED engine in the lead's gear whose report is LOST stays as it is (R45, R47). -/
theorem evalMember_frozen (h : g.member = .trimmed) (hlocal : g.flags.any (·.local_) = false)
    (hfault : g.gearFault = false) (hgear : g.gearMet lead = true) (hlost : g.standing = .lost) :
    Engine.evalMember k eligible lead g = g := by
  simp [evalMember_trimmed h, isLocal_eq, hlocal, hfault, hgear, hlost]

/-- A TRIMMED engine in the lead's gear that fails the speed test drops (R47). -/
theorem evalMember_drops_apart (h : g.member = .trimmed) (hlocal : g.flags.any (·.local_) = false)
    (hfault : g.gearFault = false) (hgear : g.gearMet lead = true) (hlost : g.standing ≠ .lost)
    (hspeed : g.speedMet lead = false) :
    Engine.evalMember k eligible lead g = { g with member := .dropped, trim := 0 } := by
  simp [evalMember_trimmed h, isLocal_eq, hlocal, hfault, hgear, hlost, hspeed, Engine.asMember]

/-- A TRIMMED engine that passes every test follows the lead (R45, R47). -/
theorem evalMember_follows (h : g.member = .trimmed) (hlocal : g.flags.any (·.local_) = false)
    (hfault : g.gearFault = false) (hgear : g.gearMet lead = true) (hlost : g.standing ≠ .lost)
    (hspeed : g.speedMet lead = true) :
    Engine.evalMember k eligible lead g = g.followLead k lead := by
  simp [evalMember_trimmed h, isLocal_eq, hlocal, hfault, hgear, hlost, hspeed]

/-- An eligible WAITING or DROPPED engine that passes both tests becomes TRIMMED and follows from 0 (R45, R47). -/
theorem evalMember_rejoins (h : g.member = .waiting ∨ g.member = .dropped) (heligible : eligible = true)
    (hgear : g.gearMet lead = true) (hspeed : g.speedMet lead = true) :
    Engine.evalMember k eligible lead g = (g.asMember .trimmed).followLead k lead := by
  simp [evalMember_apart h, heligible, hgear, hspeed]

/-- A WAITING or DROPPED engine that is not eligible, or fails a test, stays so (R47). -/
theorem evalMember_stays (h : g.member = .waiting ∨ g.member = .dropped)
    (hnot : ¬ (eligible = true ∧ g.gearMet lead = true ∧ g.speedMet lead = true)) :
    Engine.evalMember k eligible lead g = { g with trim := 0 } := by
  rw [evalMember_apart h, if_neg (by simpa [and_assoc] using hnot)]

end

/-- An engine that is neither TRIMMED, WAITING nor DROPPED only has no trim (R45). -/
theorem evalMember_other {k : Nat} {eligible : Bool} {lead : Option Engine} {g : Engine}
    (h : g.member = .outside ∨ g.member = .lead) :
    Engine.evalMember k eligible lead g = { g with trim := 0 } := by
  rcases h with h | h <;> simp only [Engine.evalMember, h]

/-- The trim step writes the trim alone. -/
theorem followLead_keeps (k : Nat) (lead : Option Engine) (g : Engine) :
    g.followLead k lead = { g with trim := (g.followLead k lead).trim } := by
  unfold Engine.followLead
  split
  · split
    · split <;> rfl
    · rfl
  · rfl

/-- The member evaluation writes member status and trim alone (R47). -/
theorem evalMember_keeps (k : Nat) (eligible : Bool) (lead : Option Engine) (g : Engine) :
    g.sameButTrim (Engine.evalMember k eligible lead g) := by
  have follow (x : Engine) (hx : g.sameButTrim x) : g.sameButTrim (x.followLead k lead) := by
    rw [Engine.sameButTrim, followLead_keeps, hx]
  unfold Engine.sameButTrim
  cases hm : g.member with
  | trimmed =>
    rw [evalMember_trimmed hm]
    split_ifs
    · rfl
    · rfl
    · rfl
    · rfl
    · exact follow g rfl
  | waiting =>
    rw [evalMember_apart (.inl hm)]
    split_ifs
    · exact follow _ rfl
    · rfl
  | dropped =>
    rw [evalMember_apart (.inr hm)]
    split_ifs
    · exact follow _ rfl
    · rfl
  | outside => rw [evalMember_other (.inl hm)]
  | lead => rw [evalMember_other (.inr hm)]

/-! ## The trim stage (R38) -/

/-- A hand-over to the condition unit leaves the engine records. -/
@[simp] theorem setSource_engineAt (s : State) (code : Nat) (b : Bool) (m : Fin 4) :
    (s.setSource code b).engineAt m = s.engineAt m := by
  simp [State.engineAt]

/-- The evaluation of SYNC DROPPED leaves the engine records. -/
@[simp] theorem evalSyncDropped_engineAt (s : State) (m : Fin 4) : s.evalSyncDropped.engineAt m = s.engineAt m :=
  setSource_engineAt _ _ _ _

/-- The lead of an armed group, and an engine of a disarmed channel, have no trim (R45). -/
theorem stageTrim_engineAt_untrimmed {s : State} {n c : Fin 4}
    (h : s.prop.sync[c.val] = false ∨ (s.engineAt n).member = .lead) :
    (s.stageTrim n c).engineAt n = { s.engineAt n with trim := 0 } := by
  unfold State.stageTrim
  dsimp only
  split_ifs with harmed hlead
  · rw [engineAt_mod, if_pos rfl]
  · rcases h with h | h
    · simp [h] at harmed
    · exact absurd h hlead
  · rw [engineAt_mod, if_pos rfl]

/-- An engine of an armed group that is not its lead is evaluated as a member (R47). -/
theorem stageTrim_engineAt_member {s : State} {n c : Fin 4} (harmed : s.prop.sync[c.val] = true)
    (hlead : (s.engineAt n).member ≠ .lead) :
    (s.stageTrim n c).engineAt n =
      Engine.evalMember s.syncGain (s.eligible n) ((s.leadOf c).map s.engineAt) (s.engineAt n) := by
  unfold State.stageTrim
  dsimp only
  rw [if_pos harmed, if_neg hlead, evalSyncDropped_engineAt, engineAt_mod, if_pos rfl]

/-- The trim stage of an engine leaves every other engine's record. -/
theorem stageTrim_engineAt_other (s : State) {n m : Fin 4} (c : Fin 4) (h : m ≠ n) :
    (s.stageTrim n c).engineAt m = s.engineAt m := by
  unfold State.stageTrim
  dsimp only
  split_ifs
  · rw [engineAt_mod, if_neg h.symm]
  · rw [evalSyncDropped_engineAt, engineAt_mod, if_neg h.symm]
  · rw [engineAt_mod, if_neg h.symm]

/-- The trim stage writes member status, trim and SYNC DROPPED alone. -/
theorem TrimsOnly.stageTrim (s : State) (n c : Fin 4) : TrimsOnly s (s.stageTrim n c) := by
  unfold State.stageTrim
  dsimp only
  split_ifs
  · exact TrimsOnly.mod _ _ _ fun g => rfl
  · exact (TrimsOnly.mod _ _ _ fun g => evalMember_keeps _ _ _ g).trans (TrimsOnly.evalSync _)
  · exact TrimsOnly.mod _ _ _ fun g => rfl

/-- The trim stage leaves every gear. -/
@[simp] theorem stageTrim_gear (s : State) (n c m : Fin 4) :
    ((s.stageTrim n c).engineAt m).gear = (s.engineAt m).gear := by
  rw [(TrimsOnly.stageTrim s n c).1 m]

/-- The trim stage leaves every setpoint. -/
@[simp] theorem stageTrim_setpoint (s : State) (n c m : Fin 4) :
    ((s.stageTrim n c).engineAt m).setpoint = (s.engineAt m).setpoint := by
  rw [(TrimsOnly.stageTrim s n c).1 m]

/-! ## Changes of one engine -/

/-- Two changes of one engine are one change. -/
theorem modEngine_modEngine (s : State) (n : Fin 4) (f g : Engine → Engine) :
    (s.modEngine n f).modEngine n g = s.modEngine n fun x => g (f x) := by
  simp [State.modEngine, State.withProp, Bank.upd]

/-- A change of an engine is what it makes of that engine's record. -/
theorem modEngine_congr {s : State} {n : Fin 4} {f g : Engine → Engine} (h : f (s.engineAt n) = g (s.engineAt n)) :
    s.modEngine n f = s.modEngine n g := by
  unfold State.engineAt at h
  simp [State.modEngine, Bank.upd, h]

/-! ## The gear step (R31 to R34) -/

/-- The gear transitions neither read nor write member status and trim. -/
theorem gearStep_withTrim (now : Moment) (g : Engine) (w : Option Direction) (m : Member) (t : Int) :
    Engine.gearStep now { g with member := m, trim := t } w = { g.gearStep now w with member := m, trim := t } := by
  cases g with
  | mk gear lastDir shiftTarget phase =>
    cases gear with
    | neutral =>
      cases w with
      | none => rfl
      | some d =>
        simp only [Engine.gearStep]
        split <;> rfl
    | ahead => rcases w with _ | _ | _ <;> rfl
    | astern => rcases w with _ | _ | _ <;> rfl
    | shifting =>
      cases w with
      | none => rfl
      | some d =>
        simp only [Engine.gearStep]
        split <;> rfl

/-- The gear transitions leave the setpoint to the ramp. -/
@[simp] theorem gearStep_setpoint (now : Moment) (g : Engine) (w : Option Direction) :
    (g.gearStep now w).setpoint = g.setpoint := by
  unfold Engine.gearStep
  split
  · split
    · rfl
    · split <;> rfl
  · split <;> rfl
  · split <;> rfl
  · split
    · rfl
    · split <;> rfl

/-! ## The clearing of a gear fault by the lever (R37) -/

/-- A gear fault that the lever in its dead band clears is cleared with its source and its group's lead. -/
theorem faultByLever_eq (s : State) (n : Fin 4) (l : Int) (dead : Nat) :
    s.faultByLever n l dead =
      if (s.engineAt n).gearFault = true ∧ l.natAbs ≤ dead then
        ((s.modEngine n fun g => { g with gearFault := false }).setSource (11 + n.val) false).reLeadOf n
      else s := by
  unfold State.faultByLever State.clearGearFault
  by_cases hl : l.natAbs ≤ dead <;> simp [hl]

/-- A record whose gear fault the lever `l` clears where it lies within the dead band (R37). -/
def Engine.leverCleared (l : Int) (dead : Nat) (g : Engine) : Engine :=
  { g with gearFault := g.gearFault && !decide (l.natAbs ≤ dead) }

/-- What the clearing by the lever leaves (R37, R46): the engine's gear fault, and beyond it member status and trim of
the engines, GEAR FAULT n and SYNC DROPPED. -/
theorem faultByLever_spec (s : State) (n : Fin 4) (l : Int) (dead : Nat) :
    let t := s.faultByLever n l dead
    ((s.engineAt n).leverCleared l dead).sameButTrim (t.engineAt n)
      ∧ (∀ m : Fin 4, m ≠ n → (s.engineAt m).sameButTrim (t.engineAt m))
      ∧ t.prop.sync = s.prop.sync ∧ s.condsBut t [11 + n.val, 19] := by
  dsimp only
  rw [faultByLever_eq]
  split
  case isTrue h =>
    obtain ⟨-, hcentred⟩ := h
    let cleared := s.modEngine n fun g => { g with gearFault := false }
    have hprop : (cleared.setSource (11 + n.val) false).prop = cleared.prop := by simp
    have hat (m : Fin 4) : (cleared.setSource (11 + n.val) false).engineAt m =
        if n = m then { s.engineAt m with gearFault := false } else s.engineAt m := by
      rw [setSource_engineAt, engineAt_mod]
    obtain ⟨htrims, hsync, hconds⟩ := TrimsOnly.reLeadOf (cleared.setSource (11 + n.val) false) n
    refine ⟨?_, fun m hm => ?_, ?_, ?_⟩
    · rw [Engine.sameButTrim, htrims n, hat, if_pos rfl]
      simp [Engine.leverCleared, hcentred]
    · rw [Engine.sameButTrim, htrims m, hat, if_neg hm.symm]
    · rw [hsync, hprop]
      rfl
    · have hsource : cleared.condsBut (cleared.setSource (11 + n.val) false) [11 + n.val, 19] :=
        setSource_condsBut _ _ _ _ List.mem_cons_self
      exact condsBut_trans hsource (condsBut_mono hconds (by simp))
  case isFalse h =>
    refine ⟨?_, fun m _ => rfl, rfl, condsBut_refl _ _⟩
    have hkeep : ((s.engineAt n).gearFault && !decide (l.natAbs ≤ dead)) = (s.engineAt n).gearFault := by
      cases hfault : (s.engineAt n).gearFault with
      | false => rfl
      | true => simpa [hfault] using h
    rw [Engine.sameButTrim, Engine.leverCleared, hkeep]

/-! ## What a demand computation reads -/

/-- The curves of a channel are read from the tables alone. -/
theorem curves?_of_store {s t : State} (h : t.store = s.store) (c : Fin 4) : t.curves? c = s.curves? c := by
  unfold State.curves? State.tableImage State.slot
  rw [h]

/-- The dead band of a channel is read from the tables alone. -/
theorem deadBand_of_store {s t : State} (h : t.store = s.store) (c : Fin 4) : t.deadBand c = s.deadBand c := by
  unfold State.deadBand
  rw [curves?_of_store h]

/-- The wanted direction does not depend on whether the lever in its dead band has first cleared the gear fault: it is
neutral there in any case (R37). -/
theorem wantedDirection_cleared {l : Int} {dead : Nat} {valid : Bool} {g h : Engine}
    (hcleared : (g.leverCleared l dead).sameButTrim h) :
    wantedDirection l dead valid h = wantedDirection l dead valid g := by
  rw [Engine.sameButTrim] at hcleared
  rw [hcleared]
  unfold wantedDirection Engine.isRunning Engine.leverCleared
  by_cases hl : l.natAbs ≤ dead <;> simp [hl]

/-! ## Target, ramp and command (R40 to R43) -/

/-- No target or ceiling rpm stands below idle (R40). -/
theorem idle_le_rpmAt (e : EngineEntry) (gear : GearState) (t : Nat) : e.idle ≤ rpmAt e gear t := Nat.le_add_right _ _

/-- The ceiling rpm of an engine that is not in a direction is idle (R40). -/
theorem rpmAt_idle (e : EngineEntry) {gear : GearState} (h : gear = .neutral ∨ gear = .shifting) (t : Nat) :
    rpmAt e gear t = e.idle := by
  rcases h with rfl | rfl <;> simp [rpmAt, maxFor]

/-- The ramp's clamp (R41). -/
theorem rampSetpoint_le_ceiling (e : EngineEntry) (interval target ceiling sp : Nat) :
    rampSetpoint e interval target ceiling sp ≤ 16 * ceiling := Nat.min_le_right _ _

/-- A setpoint at or above 16 × idle stays there under a target and a ceiling that do (R41). -/
theorem idle_le_rampSetpoint {e : EngineEntry} {interval target ceiling sp : Nat} (htarget : e.idle ≤ target)
    (hceiling : e.idle ≤ ceiling) (hsp : 16 * e.idle ≤ sp) :
    16 * e.idle ≤ rampSetpoint e interval target ceiling sp := by
  unfold rampSetpoint
  dsimp only
  split_ifs <;> omega

/-- The setpoint rises by at most one ramp step (R41). -/
theorem rampSetpoint_le_step (e : EngineEntry) (interval target ceiling sp : Nat) :
    rampSetpoint e interval target ceiling sp ≤ sp + max 1 (e.rampUp * interval * 16 / 1000) := by
  unfold rampSetpoint rampStep
  dsimp only
  split_ifs <;> omega

/-- The speed command in integers: a sum below 0 stands under idle like any other (R43). -/
theorem speedCommand_cast (idle ceiling sp : Nat) (tau : Int) :
    (speedCommand idle ceiling sp tau : Int) =
      max (idle : Int) (min (ceiling : Int) (((sp : Int) + tau + 8) / 16)) := by
  unfold speedCommand
  omega

/-- A speed command under a ceiling of idle is idle (R43). -/
theorem speedCommand_idle (idle sp : Nat) (tau : Int) : speedCommand idle idle sp tau = idle := by
  unfold speedCommand
  omega

/-! ## The demand computation (R38) -/

/-- An engine's record after stages 1 to 4 of its demand computation at `now`: the gear moved on the wanted direction
`w`, and the setpoint ramped toward the target of the thrust `y` under the ceiling `cEff` (R31 to R34, R40, R41). -/
def Engine.ramped (now : Moment) (w : Option Direction) (e : EngineEntry) (interval y cEff : Nat) (g : Engine) :
    Engine :=
  let moved := g.gearStep now w
  { moved with
    setpoint :=
      rampSetpoint e interval (rpmAt e moved.gear (min y cEff)) (rpmAt e moved.gear cEff) g.setpoint }

/-- Stages 1 to 4 neither read nor write member status and trim. -/
theorem ramped_withTrim (now : Moment) (w : Option Direction) (e : EngineEntry) (interval y cEff : Nat) (g : Engine)
    (m : Member) (t : Int) :
    Engine.ramped now w e interval y cEff { g with member := m, trim := t } =
      { Engine.ramped now w e interval y cEff g with member := m, trim := t } := by
  simp only [Engine.ramped, gearStep_withTrim]

/-- The lever in use of channel `c`, within ±1000 (R31). -/
def State.leverOf (s : State) (c : Fin 4) : Int := clampTo 1000 s.station.inUse.levers[c.val]

/-- The direction that the lever of channel `c` wants of engine n (R31). -/
def State.wantedOf (s : State) (n c : Fin 4) : Option Direction :=
  wantedDirection (s.leverOf c) (s.deadBand c) (s.curves? c).isSome (s.engineAt n)

/-- The state after stages 1 to 4 of engine n's demand computation (R38). -/
def State.rampStage (s : State) (n : Fin 4) (e : EngineEntry) (interval cEff : Nat) : State :=
  let c := ix4 e.channel
  let y := thrustY (s.curves? c) (s.wantedOf n c) (s.leverOf c).natAbs
  (s.faultByLever n (s.leverOf c) (s.deadBand c)).modEngine n
    (Engine.ramped s.now (s.wantedOf n c) e interval y cEff)

/-- Stages 5 and 6 of engine n's demand computation: the trim, then the command, which the engine remembers (R38). -/
def State.trimAndCommand (s : State) (n : Fin 4) (e : EngineEntry) (cEff : Nat) : EngineCommand × State :=
  let t := s.stageTrim n (ix4 e.channel)
  let g := t.engineAt n
  let cmd := { rpm := speedCommand e.idle (rpmAt e g.gear cEff) g.setpoint g.trim, gear := g.gear.command }
  (cmd, t.modEngine n fun g => { g with lastCommand := some cmd })

/-- The gear that stages 5 and 6 work with is the one they are entered with. -/
theorem trimAndCommand_of_gear {s : State} {n : Fin 4} {gear : GearState} (e : EngineEntry) (cEff : Nat)
    (h : gear = (s.engineAt n).gear) :
    s.trimAndCommand n e cEff =
      let t := s.stageTrim n (ix4 e.channel)
      let g := t.engineAt n
      let cmd := { rpm := speedCommand e.idle (rpmAt e gear cEff) g.setpoint g.trim, gear := gear.command }
      (cmd, t.modEngine n fun g => { g with lastCommand := some cmd }) := by
  simp only [State.trimAndCommand, stageTrim_gear, h]

/-- A demand computation is its first four stages and its last two (R38). -/
theorem demand_eq (s : State) (n : Fin 4) (e : EngineEntry) (interval cEff : Nat) :
    s.demand n e interval cEff = (s.rampStage n e interval cEff).trimAndCommand n e cEff := by
  let c := ix4 e.channel
  let u := s.faultByLever n (s.leverOf c) (s.deadBand c)
  let w := wantedDirection (s.leverOf c) (u.deadBand c) (u.curves? c).isSome (u.engineAt n)
  let moved := u.modEngine n fun g => g.gearStep u.now w
  let y := thrustY (moved.curves? c) w (s.leverOf c).natAbs
  let ramped := moved.modEngine n fun g =>
    { g with
      setpoint := rampSetpoint e interval (rpmAt e (moved.engineAt n).gear (min y cEff))
        (rpmAt e (moved.engineAt n).gear cEff) g.setpoint }
  have hstore : u.store = s.store := by simp [u]
  have hnow : u.now = s.now := by simp [u]
  have hwanted : w = s.wantedOf n c := by
    dsimp only [w]
    rw [deadBand_of_store hstore, curves?_of_store hstore]
    exact wantedDirection_cleared (faultByLever_spec s n (s.leverOf c) (s.deadBand c)).1
  have hy : y = thrustY (s.curves? c) (s.wantedOf n c) (s.leverOf c).natAbs := by
    rw [← hwanted, ← curves?_of_store hstore]
    rfl
  have hmoved : moved.engineAt n = (u.engineAt n).gearStep s.now (s.wantedOf n c) := by
    rw [engineAt_mod, if_pos rfl, hnow, hwanted]
  have hramped : ramped = s.rampStage n e interval cEff := by
    dsimp only [ramped]
    rw [hy, hmoved, modEngine_modEngine]
    refine modEngine_congr ?_
    simp only [hnow, hwanted, gearStep_setpoint]
    rfl
  have hgear : (moved.engineAt n).gear = (ramped.engineAt n).gear := by
    simp only [ramped, engineAt_mod, if_true]
  calc s.demand n e interval cEff
      = ramped.trimAndCommand n e cEff := (trimAndCommand_of_gear e cEff hgear).symm
    _ = (s.rampStage n e interval cEff).trimAndCommand n e cEff := by rw [hramped]

/-! ## The stages, in the terms of R31, R37 and R40 -/

/-- The wanted direction is neutral for a centred lever, an INVALID curve table, and an engine that does not run or is
in gear fault, and otherwise the lever's side (R26, R31). -/
theorem wantedOf_eq (s : State) (n c : Fin 4) :
    s.wantedOf n c =
      if (s.leverOf c).natAbs ≤ s.deadBand c ∨ s.curves? c = none ∨ (s.engineAt n).isRunning = false
          ∨ (s.engineAt n).gearFault = true then none
      else if 0 < s.leverOf c then some .ahead
      else some .astern := by
  simp only [State.wantedOf, wantedDirection, Option.isSome_eq_false_iff, Option.isNone_iff_eq_none]

/-- Stages 1 to 4 act on the record whose gear fault the lever has cleared, and keep the member status and trim that
the re-evaluation of the lead has left (R37, R46). -/
theorem rampStage_eq (s : State) (n : Fin 4) (e : EngineEntry) (interval cEff : Nat) :
    let c := ix4 e.channel
    let w := s.wantedOf n c
    let cleared := (s.engineAt n).leverCleared (s.leverOf c) (s.deadBand c)
    s.rampStage n e interval cEff =
      (s.faultByLever n (s.leverOf c) (s.deadBand c)).modEngine n fun g =>
        { cleared.ramped s.now w e interval (thrustY (s.curves? c) w (s.leverOf c).natAbs) cEff with
          member := g.member, trim := g.trim } := by
  intro c w cleared
  have hcleared : cleared.sameButTrim ((s.faultByLever n (s.leverOf c) (s.deadBand c)).engineAt n) :=
    (faultByLever_spec s n (s.leverOf c) (s.deadBand c)).1
  rw [Engine.sameButTrim] at hcleared
  refine modEngine_congr ?_
  rw [hcleared, ramped_withTrim]

/-! ## What a demand computation leaves (R42, R43) -/

/-- The command of a demand computation, in terms of the record it leaves (R43). -/
theorem demand_command (s : State) (n : Fin 4) (e : EngineEntry) (interval cEff : Nat) :
    let r := s.demand n e interval cEff
    let g := r.2.engineAt n
    r.1 = { rpm := speedCommand e.idle (rpmAt e g.gear cEff) g.setpoint g.trim, gear := g.gear.command }
      ∧ g.lastCommand = some r.1 := by
  simp only [demand_eq, State.trimAndCommand, engineAt_mod, if_true, and_self]

/-- The setpoint a demand computation leaves is the old one ramped toward a target not below idle, under the ceiling
rpm of the gear that the computation leaves (R41). -/
theorem demand_setpoint (s : State) (n : Fin 4) (e : EngineEntry) (interval cEff : Nat) :
    let g := (s.demand n e interval cEff).2.engineAt n
    ∃ target : Nat, e.idle ≤ target
      ∧ g.setpoint = rampSetpoint e interval target (rpmAt e g.gear cEff) (s.engineAt n).setpoint := by
  intro g
  have hg : g.gear = ((s.rampStage n e interval cEff).engineAt n).gear
      ∧ g.setpoint = ((s.rampStage n e interval cEff).engineAt n).setpoint := by
    simp only [g, demand_eq, State.trimAndCommand, engineAt_mod, if_true, stageTrim_gear, stageTrim_setpoint,
      and_self]
  rw [hg.1, hg.2, rampStage_eq, engineAt_mod, if_pos rfl]
  exact ⟨_, idle_le_rpmAt _ _ _, rfl⟩

/-- The record of every other engine after a demand computation of engine n. -/
theorem demand_other (s : State) {n m : Fin 4} (e : EngineEntry) (interval cEff : Nat) (h : m ≠ n) :
    (s.engineAt m).sameButTrim ((s.demand n e interval cEff).2.engineAt m) := by
  simp only [demand_eq, State.trimAndCommand, State.rampStage, engineAt_mod, if_neg h.symm,
    stageTrim_engineAt_other _ _ h]
  obtain ⟨-, hother, -⟩ := faultByLever_spec s n (s.leverOf (ix4 e.channel)) (s.deadBand (ix4 e.channel))
  exact hother m h

/-- A demand computation arms and disarms no channel, and moves no condition but its engine's GEAR FAULT and SYNC
DROPPED. -/
theorem demand_sync_conds (s : State) (n : Fin 4) (e : EngineEntry) (interval cEff : Nat) :
    (s.demand n e interval cEff).2.prop.sync = s.prop.sync
      ∧ s.condsBut (s.demand n e interval cEff).2 [11 + n.val, 19] := by
  obtain ⟨-, -, hsync, hconds⟩ :=
    faultByLever_spec s n (s.leverOf (ix4 e.channel)) (s.deadBand (ix4 e.channel))
  obtain ⟨-, htrimSync, htrimConds⟩ := TrimsOnly.stageTrim (s.rampStage n e interval cEff) n (ix4 e.channel)
  rw [demand_eq]
  exact ⟨htrimSync.trans hsync, condsBut_trans (t := s.rampStage n e interval cEff) hconds
    (condsBut_mono htrimConds (by simp))⟩

/-- A demand computation stays within the propulsion and the condition unit. -/
theorem demand_sameBut (s : State) (n : Fin 4) (e : EngineEntry) (interval cEff : Nat) :
    s.sameBut (s.demand n e interval cEff).2 [.prop, .cond] := by
  intro p hp
  cases p <;> simp_all [State.agree]

/-- An EXCHANGE slot sends the command of the computation it makes under the effective ceiling (R39, R73). -/
theorem fireEngine_exchange (s : State) {slot : SlotEntry} (h : slotKindOf slot.kind = .exchange) (interval : Nat)
    (n : Fin 4) (e : EngineEntry) :
    s.fireEngine slot interval n e =
      let d := s.demand n e interval (s.cEff n)
      d.2.sendMachinery slot.node 0x11 (beBytes 2 d.1.rpm ++ [byte d.1.gear]) := by
  unfold State.fireEngine
  rw [if_pos h]

/-- Settles O29: the curve, the member evaluation, the trim stage, the stages before it, and what the computation
leaves, each by its own lemmas. -/
theorem demandObeysTheCeilings : Obligations.DemandObeysTheCeilings := by
  unfold Obligations.DemandObeysTheCeilings
  refine ⟨fun points m h => ⟨fun p => curveAt_below, fun p => curveAt_beyond h, fun i p q => curveAt_between h⟩,
    fun k eligible lead g => ?_, fun s n c => ⟨stageTrim_engineAt_untrimmed, stageTrim_engineAt_member,
      fun m => stageTrim_engineAt_other s c⟩, fun s n e interval cEff => ?_, fun s n e interval cEff => ?_⟩
  · intro gearOk apart speedOk followed h
    have hgear : g.gearMet lead = true ↔ gearOk := gearMet_iff lead g
    have hspeed : g.speedMet lead = true ↔ speedOk := speedMet_iff lead g
    have hgearNot (hg : ¬ gearOk) : g.gearMet lead = false := Bool.eq_false_iff.2 (mt hgear.1 hg)
    have hspeedNot (hs : ¬ speedOk) : g.speedMet lead = false := Bool.eq_false_iff.2 (mt hspeed.1 hs)
    refine ⟨fun hm => ⟨evalMember_drops_out hm, fun hlocal hfault =>
      ⟨fun hg => evalMember_waits hm hlocal hfault (hgearNot hg),
        fun hg => evalMember_frozen hm hlocal hfault (hgear.2 hg),
        fun hg hlost hs => evalMember_drops_apart hm hlocal hfault (hgear.2 hg) hlost (hspeedNot hs),
        fun hg hlost hs l own led ⟨hl, hown, hled⟩ => ?_⟩⟩,
      fun hm => ⟨fun he hg hs l own led ⟨hl, hown, hled⟩ => ?_, fun hnot => ?_⟩⟩
    · exact (evalMember_follows hm hlocal hfault (hgear.2 hg) hlost (hspeed.2 hs)).trans (followLead_eq hl hown hled)
    · exact (evalMember_rejoins hm he (hgear.2 hg) (hspeed.2 hs)).trans (followLead_eq hl hown hled)
    · exact evalMember_stays hm (by rwa [hgear, hspeed])
  · intro c lever centred own wanted cleared moved full thrust target ceiling ramped r led u
    have hwanted : s.wantedOf n c = wanted := wantedOf_eq s n c
    have hled : s.faultByLever n (s.leverOf c) (s.deadBand c) = led := faultByLever_eq s n _ _
    have hu : s.rampStage n e interval cEff = u := by
      rw [rampStage_eq, hled, hwanted]
      rfl
    have hr : r = u.trimAndCommand n e cEff := by rw [← hu, ← demand_eq]
    rw [hr]
    rfl
  · intro r g full ceiling
    obtain ⟨hcmd, hlast⟩ := demand_command s n e interval cEff
    obtain ⟨target, htarget, hset⟩ := demand_setpoint s n e interval cEff
    obtain ⟨hsync, hconds⟩ := demand_sync_conds s n e interval cEff
    have hidle (h : g.gear = .neutral ∨ g.gear = .shifting) : rpmAt e g.gear cEff = e.idle := rpmAt_idle e h cEff
    refine ⟨?_, ?_, fun h => ⟨?_, ?_⟩, ?_, fun h => ?_, ?_, hlast, fun m => demand_other s e interval cEff, hsync,
      hconds, demand_sameBut s n e interval cEff, fun slot hslot => ?_⟩
    · rw [hcmd]
      exact speedCommand_cast _ _ _ _
    · rw [hcmd]
      rfl
    · rw [hcmd, hidle h]
      exact speedCommand_idle _ _ _
    · rw [hset, hidle h]
      exact rampSetpoint_le_ceiling _ _ _ _ _
    · rw [hset]
      exact rampSetpoint_le_ceiling _ _ _ _ _
    · rw [hset]
      exact idle_le_rampSetpoint htarget (idle_le_rpmAt _ _ _) h
    · rw [hset]
      exact rampSetpoint_le_step _ _ _ _ _
    · exact fireEngine_exchange s hslot interval n e

end Sys2Proof.Machine
end

section
/-! PROOFS. Couplings (chapter 6): a coupling record that takes a reading (R105 to R109), and what follows a change of
coupling records (R110 to R112, R115) on to the changes of split mode of R120 and R122. -/

namespace Sys2Proof.Machine

/-! ## A reading taken by one record (R105 to R109) -/

/-- The reading `t` lies below the slack threshold, and the one before it was at least half of rated: the test for a
parted wire of R107 and R108. -/
def Coupling.droppedTo (c : Coupling) (e : CouplingEntry) (t : Nat) : Prop :=
  (∃ p : Nat, c.last = some p ∧ 500 * e.rated ≤ p * 1000) ∧ t < e.slack

/-- The model's test for a parted wire. -/
theorem droppedTo_iff (c : Coupling) (e : CouplingEntry) (t : Nat) :
    (atLeastHalf c.last e.rated && decide (t < e.slack)) = true ↔ c.droppedTo e t := by
  unfold atLeastHalf Coupling.droppedTo
  cases c.last <;> simp

/-- The runs after a tension reading, field by field (R105). -/
theorem run_eq (c : Coupling) (e : CouplingEntry) (t : Nat) :
    c.run e t =
      { c with
        sensor := 0
        taut := if e.slack ≤ t then min 3 (c.taut + 1) else 0
        slack := if e.slack ≤ t then 0 else min 2 (c.slack + 1) } := by
  unfold Coupling.run
  split <;> rfl

/-- A reading of tension `t` taken by a record that is not OPENED (R105). -/
theorem take_tension {c : Coupling} (h : c.state ≠ .opened) (e : CouplingEntry) (t : Nat) :
    c.take e (.tension t) =
      { c.run e t with state := (c.run e t).stateAfter e t, cause := none, last := some t } :=
  if_neg h

/-- A sensor fault taken by a record that is not OPENED: the second in a row makes it UNKNOWN (R105). -/
theorem take_sensorFault {c : Coupling} (h : c.state ≠ .opened) (e : CouplingEntry) :
    c.take e .sensorFault =
      if c.sensor = 0 ∨ c.state = .unknown then { c with sensor := min 2 (c.sensor + 1) }
      else { c with state := .unknown, cause := some .sensorFault, taut := 0, slack := 0, sensor := 2 } := by
  have hcount : satSucc 2 c.sensor = 2 ↔ c.sensor ≠ 0 := by
    unfold satSucc
    omega
  simp only [Coupling.take, if_neg h]
  by_cases hfirst : c.sensor = 0 ∨ c.state = .unknown
  · rw [if_pos hfirst, if_neg (by rw [hcount]; tauto)]
    rfl
  · rw [if_neg hfirst, if_pos (by rw [hcount]; tauto), hcount.2 (by tauto)]

/-- From MADE: OVERLOAD, then PARTED, then SLACK (R107). -/
theorem stateAfter_made {c : Coupling} (h : c.state = .made) (e : CouplingEntry) (t : Nat) :
    (e.rated ≤ t → c.stateAfter e t = .overload)
      ∧ (t < e.rated → c.droppedTo e t → c.stateAfter e t = .parted)
      ∧ (t < e.rated → ¬ c.droppedTo e t → c.stateAfter e t = if c.slack = 2 then .slack else .made) := by
  simp only [Coupling.stateAfter, h, ← droppedTo_iff]
  exact ⟨fun hover => if_pos hover,
    fun hbelow hdrop => by rw [if_neg (by omega), if_pos hdrop],
    fun hbelow hdrop => by rw [if_neg (by omega), if_neg hdrop]⟩

/-- From OVERLOAD: PARTED, then MADE below 900 ‰ of rated (R108). -/
theorem stateAfter_overload {c : Coupling} (h : c.state = .overload) (e : CouplingEntry) (t : Nat) :
    (c.droppedTo e t → c.stateAfter e t = .parted)
      ∧ (¬ c.droppedTo e t → c.stateAfter e t = if t * 1000 < 900 * e.rated then .made else .overload) := by
  simp only [Coupling.stateAfter, h, ← droppedTo_iff]
  exact ⟨fun hdrop => if_pos hdrop, fun hdrop => if_neg hdrop⟩

/-- From SLACK: OVERLOAD, then MADE after three taut readings (R108). -/
theorem stateAfter_slack {c : Coupling} (h : c.state = .slack) (e : CouplingEntry) (t : Nat) :
    (e.rated ≤ t → c.stateAfter e t = .overload)
      ∧ (t < e.rated → c.stateAfter e t = if c.taut = 3 then .made else .slack) := by
  simp only [Coupling.stateAfter, h]
  exact ⟨fun hover => if_pos hover, fun hbelow => if_neg (by omega)⟩

/-- From UNKNOWN every tension leads to UNMADE (R106). -/
theorem stateAfter_unknown {c : Coupling} (h : c.state = .unknown) (e : CouplingEntry) (t : Nat) :
    c.stateAfter e t = .unmade := by
  simp only [Coupling.stateAfter, h]

/-- From UNMADE three taut readings lead to MADE (R106). -/
theorem stateAfter_unmade {c : Coupling} (h : c.state = .unmade) (e : CouplingEntry) (t : Nat) :
    c.stateAfter e t = if c.taut = 3 then .made else .unmade := by
  simp only [Coupling.stateAfter, h]

/-- From PARTED three taut readings lead to MADE (R109). -/
theorem stateAfter_parted {c : Coupling} (h : c.state = .parted) (e : CouplingEntry) (t : Nat) :
    c.stateAfter e t = if c.taut = 3 then .made else .parted := by
  simp only [Coupling.stateAfter, h]

/-! ## What is read from the tables alone -/

/-- A write of an item to the retained store leaves the tables in use (R187). -/
@[simp] theorem wrote_slots (x : TableStore) (rb : ReadBack) (i : StoreItem) (f : Retained → Retained) :
    (x.wrote rb i f).slots = x.slots := by
  unfold TableStore.wrote
  split <;> rfl

section tables

variable {s t : State} (h : t.store.slots = s.store.slots)
include h

theorem tableImage_of_slots (id : Fin 13) : t.tableImage id = s.tableImage id := by
  unfold State.tableImage State.slot
  rw [h]

theorem couplingEntries_of_slots : t.couplingEntries = s.couplingEntries := by
  unfold State.couplingEntries State.couplingTable?
  rw [tableImage_of_slots h]

theorem pollList_of_slots : t.pollList = s.pollList := by
  unfold State.pollList State.makeUp?
  rw [tableImage_of_slots h]

theorem towLimits_of_slots : t.towLimits = s.towLimits := by
  unfold State.towLimits
  rw [tableImage_of_slots h]

theorem actuator?_of_slots (i : Fin 7) : t.actuator? i = s.actuator? i := by
  unfold State.actuator?
  rw [tableImage_of_slots h]

/-- Whether every split coupling is MADE is read from the records and the coupling table (R122). -/
theorem splitsMade_congr (hrecords : t.coup.records = s.coup.records) : t.splitsMade = s.splitsMade := by
  unfold State.splitsMade
  rw [couplingEntries_of_slots h, hrecords]

/-- The states of the cut B nodes are read from the node records and the make-up table (R120, R122). -/
theorem cutBAll_congr (htow : t.towLine = s.towLine) (x : TowNodeState) : t.cutBAll x = s.cutBAll x := by
  unfold State.cutBAll State.towNodeState
  rw [pollList_of_slots h, htow]

/-- The count of R112 reads the records, the node records, split mode and the tables. -/
theorem blindCount_congr (htow : t.towLine = s.towLine) (hrecords : t.coup.records = s.coup.records)
    (hmode : t.coup.mode = s.coup.mode) : t.blindCount = s.blindCount := by
  unfold State.blindCount State.blindCounts State.couplingNodeState State.couplingNode State.towNodeState
  rw [couplingEntries_of_slots h, pollList_of_slots h, htow, hrecords, hmode]

/-- The capped value reads the records, split mode, the start limit and the tables (R113, R114). -/
theorem cCap_congr (hrecords : t.coup.records = s.coup.records) (hmode : t.coup.mode = s.coup.mode)
    (hstart : t.coup.startLimit = s.coup.startLimit) : t.cCap = s.cCap := by
  unfold State.cCap State.rhoMax
  rw [couplingEntries_of_slots h, towLimits_of_slots h, hrecords, hmode, hstart]

/-- A change of split mode from any other than NORMAL never lowers the capped value: the split cap already applied
(R114). -/
theorem cCap_le_of_split (hrecords : t.coup.records = s.coup.records)
    (hstart : t.coup.startLimit = s.coup.startLimit) (hsplit : s.coup.mode ≠ .normal) : s.cCap ≤ t.cCap := by
  unfold State.cCap State.rhoMax
  simp only [couplingEntries_of_slots h, towLimits_of_slots h, hrecords, hstart, if_neg hsplit]
  by_cases hmode : t.coup.mode = .normal
  · simp only [if_pos hmode]
    split <;> omega
  · simp only [if_neg hmode]
    exact le_rfl

/-- Whether the bow unit is usable is read from the make-up table, the node records and split mode (R58). -/
theorem bowReady_congr (htow : t.towLine = s.towLine) (hmode : t.coup.mode = s.coup.mode) (e : SteerEntry) :
    t.bowReady e ↔ s.bowReady e := by
  unfold State.bowReady State.towNodeState
  rw [pollList_of_slots h, htow, hmode]

/-- TOW NODE SILENT follows its cause in `t` where its flag and all that its cause reads are those of `s` (R91). -/
theorem towSilentFollows_congr (htow : t.towLine = s.towLine) (hmode : t.coup.mode = s.coup.mode)
    (hsource : t.sourceOf 29 = s.sourceOf 29) : t.towSilentFollows ↔ s.towSilentFollows := by
  unfold State.towSilentFollows
  rw [pollList_of_slots h, htow, hmode, hsource]

end tables

/-! ## Conditions 31 to 34 (R111, R112) -/

/-- Conditions 31 to 34 stand with their causes. -/
def State.couplingConditions (s : State) : Prop :=
  s.sourceOf 31 = s.coup.records.any (fun r => r.state = .slack)
    ∧ s.sourceOf 32 = s.coup.records.any (fun r => r.state = .overload)
    ∧ s.sourceOf 33 = s.coup.records.any (fun r => r.state = .parted)
    ∧ s.sourceOf 34 = decide (s.towLimits.blind ≤ s.blindCount)

/-- Conditions 31 to 34 stand with their causes in `t` where their flags and all that their causes read are those of
`s`. -/
theorem couplingConditions_congr {s t : State} (hslots : t.store.slots = s.store.slots) (htow : t.towLine = s.towLine)
    (hrecords : t.coup.records = s.coup.records) (hmode : t.coup.mode = s.coup.mode)
    {l : List Nat} (hconds : s.condsBut t l) (hl : ∀ code ∈ l, code ∉ [31, 32, 33, 34])
    (h : s.couplingConditions) : t.couplingConditions := by
  have hkeep (i : Nat) (hi : i < 45) (hmem : i + 1 ∈ [31, 32, 33, 34]) : t.sourceOf (i + 1) = s.sourceOf (i + 1) :=
    srcOf_keep hconds i hi fun hin => hl _ hin hmem
  unfold State.couplingConditions
  rw [hkeep 30 (by omega) (by simp), hkeep 31 (by omega) (by simp), hkeep 32 (by omega) (by simp),
    hkeep 33 (by omega) (by simp), blindCount_congr hslots htow hrecords hmode, towLimits_of_slots hslots, hrecords]
  exact h

/-- The evaluation of conditions 31 to 34 leaves them standing with their causes. -/
theorem evalCouplings_conditions (s : State) : s.evalCouplings.couplingConditions := by
  have hblind : s.evalCouplings.blindCount = s.evalCouplingStates.blindCount := by
    apply blindCount_congr <;> simp [State.evalCouplings]
  have hlimits : s.evalCouplings.towLimits = s.evalCouplingStates.towLimits :=
    towLimits_of_slots (by simp [State.evalCouplings])
  unfold State.couplingConditions
  rw [hblind, hlimits]
  simp [State.evalCouplings, State.evalTowBlind, State.evalCouplingStates, srcOf_set]

/-- The evaluation of conditions 31 to 34 leaves every other one. -/
theorem evalCouplings_condsBut (s : State) : s.condsBut s.evalCouplings [31, 32, 33, 34] := by
  have hset (t : State) (code : Nat) (b : Bool) (hcode : code ∈ [31, 32, 33, 34]) :
      t.condsBut (t.setSource code b) [31, 32, 33, 34] := setSource_condsBut t code b _ hcode
  unfold State.evalCouplings State.evalCouplingStates State.evalTowBlind
  exact condsBut_trans (condsBut_trans (condsBut_trans (hset _ 31 _ (by simp)) (hset _ 32 _ (by simp)))
    (hset _ 33 _ (by simp))) (hset _ 34 _ (by simp))

/-! ## TOW NODE SILENT (R91) -/

/-- A zip's `any` names a position in both lists. -/
theorem any_zip_iff {α β : Type} (l : List α) (m : List β) (p : α × β → Bool) :
    (l.zip m).any p = true ↔ ∃ (i : Nat) (a : α) (b : β), l[i]? = some a ∧ m[i]? = some b ∧ p (a, b) = true := by
  simp only [List.any_eq_true, List.mem_iff_getElem?, List.getElem?_zip_eq_some]
  constructor
  · rintro ⟨⟨a, b⟩, ⟨i, ha, hb⟩, hp⟩
    exact ⟨i, a, b, ha, hb, hp⟩
  · rintro ⟨i, a, b, ha, hb, hp⟩
    exact ⟨(a, b), ⟨i, ha, hb⟩, hp⟩

/-- The evaluation of TOW NODE SILENT leaves it standing with its cause. -/
theorem evalTowSilent_follows (s : State) : s.evalTowSilent.towSilentFollows := by
  have hpoll : s.evalTowSilent.pollList = s.pollList := pollList_of_slots (by simp)
  have hsource : s.evalTowSilent.sourceOf 29 = (s.towLine.nodes.zip s.pollList).any fun p =>
      decide (p.1.state = .silent)
        && !((decide (s.coup.mode = .splitting) || decide (s.coup.mode = .split)) && p.2.cutB) := by
    simp only [State.evalTowSilent, srcOf_set _ 29 (by omega) 29 (by omega), if_true]
  unfold State.towSilentFollows
  rw [hpoll, hsource, any_zip_iff]
  simp [imp_iff_not_or]

/-! ## Bow usability (R58, R59, R63) -/

/-- The bow unit is usable where the unit that its entry names is. -/
theorem bowUsable_iff {s : State} {a : SteerEntry} (h : s.actuator? bowIx = some a) :
    s.bowUsable = true ↔ s.bowReady a := by
  unfold State.bowUsable State.bowNode State.bowReady
  simp only [h]
  cases hnode : a.node with
  | zero => simp
  | succ i =>
    cases hm : s.pollList[i]? with
    | none => simp [hm]
    | some m => cases hbow : m.bow <;> simp [hm, hbow]

/-- Reading an actuator after one actuator has changed. -/
theorem actuatorAt_mod (s : State) (i j : Fin 7) (f : Actuator → Actuator) :
    (s.modActuator i f).actuatorAt j = if i = j then f (s.actuatorAt j) else s.actuatorAt j := by
  simp only [State.actuatorAt, State.modActuator, State.withSteer, upd_get, Fin.val_inj]

/-- What the evaluation of bow usability leaves. -/
theorem evalBow_evaluated (s : State) : s.bowEvaluated s.evalBow := by
  unfold State.bowEvaluated
  intro a found
  have hfound (limit : Nat) (usable : Bool) : a.setUsable limit usable = found limit usable := by
    cases usable <;> cases hu : a.usable <;> cases hr : a.reported <;>
      simp [found, Actuator.setUsable, Actuator.prepareBow, Actuator.refreshStanding, Actuator.standingAt, clampTo,
        hu, hr]
  have hactuator : s.evalBow.actuator? bowIx = s.actuator? bowIx := actuator?_of_slots (by simp) bowIx
  have hat (limit : Nat) (usable : Bool) (b : Bool) (i : Fin 7) :
      ((s.modActuator bowIx (Actuator.setUsable limit usable)).setSource 27 b).actuatorAt i =
        if bowIx = i then found limit usable else s.actuatorAt i := by
    have hset (t : State) : (t.setSource 27 b).actuatorAt i = t.actuatorAt i := by simp [State.actuatorAt]
    rw [hset, actuatorAt_mod]
    split
    case isTrue h => rw [← h]; exact hfound limit usable
    case isFalse => rfl
  have hsource (t : State) (b : Bool) : (t.setSource 27 b).sourceOf 27 = b := by
    rw [srcOf_set _ 27 (by omega) 27 (by omega), if_pos rfl]
  cases hentry : s.actuator? bowIx with
  | none =>
    have heval : s.evalBow = (s.modActuator bowIx (Actuator.setUsable 0 false)).setSource 27 false := by
      simp only [State.evalBow, hentry]
    rw [heval]
    refine ⟨fun _ => ⟨hat 0 false false bowIx, hsource _ _⟩, fun e usable h => (nomatch h), fun i hi => ?_⟩
    rw [hat, if_neg hi.symm]
  | some entry =>
    have heval : s.evalBow =
        (s.modActuator bowIx (Actuator.setUsable entry.limit s.bowUsable)).setSource 27 (!s.bowUsable) := by
      simp only [State.evalBow, hentry]
    refine ⟨fun h => (nomatch h), fun e usable h husable => ?_, fun i hi => ?_⟩
    · obtain rfl : entry = e := Option.some.inj h
      have hready : s.evalBow.bowReady entry ↔ s.bowReady entry :=
        bowReady_congr (by simp) (by simp) (by simp) entry
      obtain rfl : usable = s.bowUsable := by
        rw [Bool.eq_iff_iff, husable, hready, bowUsable_iff hentry]
      rw [heval]
      exact ⟨hat _ _ _ bowIx, hsource _ _⟩
    · rw [heval, hat, if_neg hi.symm]

/-- The evaluation of bow usability moves BOW UNAVAILABLE alone of the conditions. -/
theorem evalBow_condsBut (s : State) : s.condsBut s.evalBow [27] := by
  have hmod (f : Actuator → Actuator) (b : Bool) : s.condsBut ((s.modActuator bowIx f).setSource 27 b) [27] :=
    condsBut_trans (condsBut_of_cond (t := s.modActuator bowIx f) (by simp) _)
      (setSource_condsBut _ _ _ _ List.mem_cons_self)
  unfold State.evalBow
  split
  · exact hmod _ _
  · exact hmod _ _

/-- An evaluation of bow usability is one of every state with the same steering records and tables, and leaves the same
in every state that agrees in what it leaves. -/
theorem bowEvaluated_congr {s s' t t' : State} (hsteer : s'.steer = s.steer) (hslots : s'.store.slots = s.store.slots)
    (hsteer' : t'.steer = t.steer) (hslots' : t'.store.slots = t.store.slots) (htow' : t'.towLine = t.towLine)
    (hmode' : t'.coup.mode = t.coup.mode) (hsource' : t'.sourceOf 27 = t.sourceOf 27) (h : s.bowEvaluated t) :
    s'.bowEvaluated t' := by
  have hat (i : Fin 7) : s'.actuatorAt i = s.actuatorAt i := by
    unfold State.actuatorAt
    rw [hsteer]
  have hat' (i : Fin 7) : t'.actuatorAt i = t.actuatorAt i := by
    unfold State.actuatorAt
    rw [hsteer']
  have hready (e : SteerEntry) : t'.bowReady e ↔ t.bowReady e := bowReady_congr hslots' htow' hmode' e
  unfold State.bowEvaluated
  simp only [hat, hat', hready, hsource', actuator?_of_slots hslots]
  exact h

/-! ## A change of split mode that keeps the records (R124) -/

/-- What a change of split mode leaves in the coupling supervisor where it keeps the records. -/
theorem setSplitMode_keep_coup (s : State) (mode : SplitMode) (rejoin : Option Moment) :
    (s.setSplitMode mode .keep rejoin).coup =
      { s.coup with
        mode := mode
        rejoinStart := rejoin
        cTow := min s.coup.cTow (s.withCoup { s.coup with mode := mode, rejoinStart := rejoin }).cCap } := by
  simp [State.setSplitMode, State.applySplitRecords, State.recomputeCeiling]

/-- A change of split mode writes the new mode to the retained store (R187). -/
theorem setSplitMode_keep_store (s : State) (mode : SplitMode) (rejoin : Option Moment) :
    (s.setSplitMode mode .keep rejoin).store =
      s.store.wrote s.readBack .splitMode fun r => { r with splitMode := some mode } := by
  unfold State.setSplitMode
  rw [writeRetained_eq]
  have hitem (t : State) : t.storeItem .splitMode = fun r => { r with splitMode := some t.coup.mode } := rfl
  rw [hitem]
  simp [State.applySplitRecords, State.recomputeCeiling]

/-- A change of split mode that keeps the records leaves all that R124 gives it. -/
theorem setSplitMode_keep_modeChanged (s : State) (mode : SplitMode) (rejoin : Option Moment) :
    s.modeChanged (s.setSplitMode mode .keep rejoin) none mode rejoin := by
  let under := (s.withCoup { s.coup with mode := mode, rejoinStart := rejoin }).recomputeCeiling
  let cleared := under.evalCouplings.setSource 35 false
  let seen := cleared.evalTowSilent
  have hunfold : s.setSplitMode mode .keep rejoin =
    seen.evalBow.writeRetained .splitMode (seen.evalBow.storeItem .splitMode) := rfl
  generalize ht : s.setSplitMode mode .keep rejoin = t at hunfold ⊢
  have hcoup := setSplitMode_keep_coup s mode rejoin
  have hstore := setSplitMode_keep_store s mode rejoin
  rw [ht] at hcoup hstore
  have hslots : t.store.slots = s.store.slots := by rw [hstore, wrote_slots]
  have htow : t.towLine = s.towLine := by simp [← ht]
  have hunder : under.coup = t.coup := by
    rw [hcoup]
    rfl
  have hconds₁ : under.condsBut under.evalCouplings [31, 32, 33, 34] := evalCouplings_condsBut under
  have hconds₂ : under.evalCouplings.condsBut cleared [35] := setSource_condsBut _ 35 _ _ List.mem_cons_self
  have hconds₃ : cleared.condsBut seen [29] := setSource_condsBut _ 29 _ _ List.mem_cons_self
  have hconds₄ : seen.condsBut t [27] :=
    condsBut_trans (evalBow_condsBut seen) (condsBut_of_cond (by rw [hunfold]; simp) _)
  have hlater : under.evalCouplings.condsBut t [27, 29, 35] :=
    condsBut_trans (condsBut_mono hconds₂ (by simp))
      (condsBut_trans (condsBut_mono hconds₃ (by simp)) (condsBut_mono hconds₄ (by simp)))
  have hcap : t.cCap = (s.withCoup { s.coup with mode := mode, rejoinStart := rejoin }).cCap :=
    cCap_congr hslots (by rw [hcoup]; rfl) (by rw [hcoup]; rfl) (by rw [hcoup]; rfl)
  obtain ⟨hslack, hover, hparted, hblind⟩ : t.couplingConditions :=
    couplingConditions_congr (s := under.evalCouplings) (by simpa [under] using hslots) (by simpa [under] using htow)
      (by simp [hunder]) (by simp [hunder]) hlater (by simp) (evalCouplings_conditions under)
  refine ⟨by rw [hcoup], by rw [hcoup], by rw [hcoup], by rw [hcoup], by rw [hcap, hcoup], hslack, hover, hparted,
    hblind, ?_, ?_, ?_, ?_, hstore, ?_⟩
  · have hcleared : cleared.sourceOf 35 = false := by
      rw [srcOf_set _ 35 (by omega) 35 (by omega), if_pos rfl]
    rw [← hcleared]
    exact srcOf_keep (condsBut_trans (condsBut_mono hconds₃ (by simp)) (condsBut_mono hconds₄ (by simp))) 34
      (by omega) (l := [27, 29]) (by simp)
  · exact (towSilentFollows_congr (s := seen) (by simpa [seen, cleared, under] using hslots)
      (by simpa [seen, cleared, under] using htow) (by simp [seen, cleared, hunder])
      (srcOf_keep hconds₄ 28 (by omega) (by simp))).2 (evalTowSilent_follows cleared)
  · exact bowEvaluated_congr (s := seen) (t := seen.evalBow) (by simp [seen, cleared, under])
      (by simp [seen, cleared, under]) (by rw [hunfold]; simp) (by rw [hunfold]; simp [writeRetained_eq])
      (by rw [hunfold]; simp) (by rw [hunfold]; simp) (by rw [hunfold]; simp [State.sourceOf])
      (evalBow_evaluated seen)
  · exact condsBut_trans (condsBut_of_cond (t := under) (by simp [under]) _)
      (condsBut_trans (condsBut_mono hconds₁ (by simp)) (condsBut_mono hlater (by simp)))
  · intro p hp
    rw [← ht]
    cases p <;> simp [State.agree] at hp ⊢

/-! ## Frames in sequence -/

/-- What is left outside a list is left outside a longer one. -/
theorem sameBut_mono {s t : State} {l l' : List Part} (h : s.sameBut t l) (hl : ∀ p ∈ l, p ∈ l') : s.sameBut t l' :=
  fun p hp => h p fun hin => hp (hl p hin)

/-- What two steps leave, their sequence leaves. -/
theorem sameBut_trans {s t u : State} {l : List Part} (h : s.sameBut t l) (h' : t.sameBut u l) : s.sameBut u l := by
  intro p hp
  have hst := h p hp
  have htu := h' p hp
  cases p <;> exact Eq.trans htu hst

/-! ## What follows a change of coupling records (R111, R112, R115) -/

/-- `t` is `s` after a change of coupling records: conditions 31 to 34 stand with their causes, the ceiling has fallen to
the capped value, and split mode is not tested yet. -/
def State.recordsFollowed (s t : State) : Prop :=
  t.coup = { s.coup with records := t.coup.records, cTow := min s.coup.cTow t.cCap }
    ∧ t.couplingConditions ∧ s.condsBut t [31, 32, 33, 34] ∧ s.sameBut t [.coup, .cond]

/-- Records put in place, then the ceiling, then the conditions. -/
theorem recordsFollowed_ceiling_conditions (s : State) (records : List Coupling) :
    s.recordsFollowed (s.withCoup { s.coup with records := records }).recomputeCeiling.evalCouplings := by
  let changed := s.withCoup { s.coup with records := records }
  have hcap : changed.recomputeCeiling.evalCouplings.cCap = changed.cCap := by
    apply cCap_congr <;> simp [State.recomputeCeiling]
  refine ⟨?_, evalCouplings_conditions _, ?_, fun p hp => ?_⟩
  · rw [hcap]
    simp [State.recomputeCeiling, changed]
  · exact condsBut_trans (condsBut_of_cond (t := changed.recomputeCeiling) (by simp [changed]) _)
      (evalCouplings_condsBut _)
  · cases p <;> simp [State.agree] at hp ⊢

/-- Records put in place, then the conditions, then the ceiling. -/
theorem recordsFollowed_conditions_ceiling (s : State) (records : List Coupling) :
    s.recordsFollowed (s.withCoup { s.coup with records := records }).evalCouplings.recomputeCeiling := by
  let evaluated := (s.withCoup { s.coup with records := records }).evalCouplings
  have hcap : evaluated.recomputeCeiling.cCap = evaluated.cCap := by
    apply cCap_congr <;> simp [State.recomputeCeiling]
  have hconds : evaluated.condsBut evaluated.recomputeCeiling [] := condsBut_of_cond (by simp) _
  refine ⟨?_, ?_, ?_, fun p hp => ?_⟩
  · rw [hcap]
    simp [State.recomputeCeiling, evaluated]
  · exact couplingConditions_congr (by simp) (by simp) rfl rfl hconds (by simp) (evalCouplings_conditions _)
  · exact condsBut_trans (condsBut_trans (condsBut_of_cond (by simp) _) (evalCouplings_condsBut _))
      (condsBut_mono hconds (by simp))
  · cases p <;> simp [State.agree] at hp ⊢

/-- Split mode stays as it is. -/
theorem State.recordsFollowed.stays {s t : State} (h : s.recordsFollowed t) : s.couplingsFollowed t s.coup.mode := by
  obtain ⟨hcoup, ⟨hslack, hover, hparted, hblind⟩, hconds, hsame⟩ := h
  have hmode : t.coup.mode = s.coup.mode := by rw [hcoup]
  refine ⟨hmode, by rw [hcoup], ?_, hslack, hover, hparted, hblind,
    fun _ => ⟨by rw [hcoup], hsame .store (by simp), hconds, hsame⟩, fun hmoved => absurd rfl hmoved⟩
  rw [show ({ t with coup := { t.coup with mode := s.coup.mode } } : State).cCap = t.cCap from
    cCap_congr rfl rfl hmode.symm rfl, hcoup]

/-- Split mode goes on from another mode than NORMAL: the ceiling that fell to the capped value of the mode before does
not fall again (R114, R124). -/
theorem State.recordsFollowed.moves {s t : State} (h : s.recordsFollowed t) {mode : SplitMode}
    (hsplit : s.coup.mode ≠ .normal) (hmode : mode ≠ s.coup.mode) :
    s.couplingsFollowed (t.setSplitMode mode .keep none) mode := by
  obtain ⟨hcoup, -, hconds, hsame⟩ := h
  generalize hu : t.setSplitMode mode .keep none = u
  obtain ⟨hrecords, hmoded, hrejoin, hstart, hceiling, hslack, hover, hparted, hblind, hoverdue, hsilent, hbow,
    hconds', hstore, hsame'⟩ : t.modeChanged u none mode none := hu ▸ setSplitMode_keep_modeChanged t mode none
  have hstores : t.store = s.store := hsame .store (by simp)
  have hbacks : t.readBack = s.readBack := hsame .readBack (by simp)
  have hslots : u.store.slots = t.store.slots := by rw [hstore, wrote_slots]
  have hcap : ({ u with coup := { u.coup with mode := s.coup.mode } } : State).cCap = t.cCap :=
    cCap_congr hslots hrecords (by rw [hcoup]) hstart
  have hle : t.cCap ≤ u.cCap := cCap_le_of_split hslots hrecords hstart (by rw [hcoup]; exact hsplit)
  refine ⟨hmoded, by rw [hstart, hcoup], ?_, hslack, hover, hparted, hblind, fun hstays => absurd hstays hmode,
    fun _ => ⟨hrejoin, hoverdue, hsilent, ?_, by rw [hstore, hstores, hbacks], ?_, ?_⟩⟩
  · have hfallen : t.coup.cTow = min s.coup.cTow t.cCap := by rw [hcoup]
    rw [hcap, hceiling, hfallen]
    omega
  · exact bowEvaluated_congr (hsame .steer (by simp)).symm (congrArg _ hstores.symm) rfl rfl rfl rfl rfl hbow
  · exact condsBut_trans (condsBut_mono hconds (by simp)) hconds'
  · exact sameBut_trans (sameBut_mono hsame (by simp)) hsame'

/-! ## The tests of R120 and R122 -/

/-- The test of R122 leaves the records. -/
theorem testRejoin_records (s : State) : s.testRejoin.coup.records = s.coup.records := by
  unfold State.testRejoin
  split
  · rw [setSplitMode_keep_coup]
  · rfl

/-- The test of R122 leaves the tables. -/
theorem testRejoin_slots (s : State) : s.testRejoin.store.slots = s.store.slots := by
  unfold State.testRejoin
  split
  · rw [setSplitMode_keep_store, wrote_slots]
  · rfl

/-- The test of R122 leaves what it tests of the split couplings. -/
theorem testRejoin_splitsMade (s : State) : s.testRejoin.splitsMade = s.splitsMade :=
  splitsMade_congr (testRejoin_slots s) (testRejoin_records s)

/-- What follows a change of coupling records has left what the tests of R120 and R122 read. -/
theorem State.recordsFollowed.cutBAll_eq {s t : State} (h : s.recordsFollowed t) (x : TowNodeState) :
    t.cutBAll x = s.cutBAll x := by
  obtain ⟨-, -, -, hsame⟩ := h
  exact cutBAll_congr (congrArg _ (hsame .store (by simp))) (hsame .towLine (by simp)) x

/-- What follows a change of coupling records leaves split mode to the tests of R120 and R122. -/
theorem State.recordsFollowed.mode_eq {s t : State} (h : s.recordsFollowed t) : t.coup.mode = s.coup.mode := by
  obtain ⟨hcoup, -⟩ := h
  rw [hcoup]

/-- The test of R122 after a change of coupling records. -/
theorem State.recordsFollowed.testRejoin {s t : State} (h : s.recordsFollowed t) :
    s.couplingsFollowed t.testRejoin
      (if s.coup.mode = .rejoining ∧ s.cutBAll .present = true ∧ t.testRejoin.splitsMade = true then .normal
       else s.coup.mode) := by
  rw [testRejoin_splitsMade, State.testRejoin, h.mode_eq, h.cutBAll_eq]
  split
  case isTrue hends =>
    obtain ⟨hrejoining, -, -⟩ := hends
    exact h.moves (by simp [hrejoining]) (by simp [hrejoining])
  case isFalse => exact h.stays

/-- The tests of R120 and R122, in this order, after a change of coupling records. -/
theorem State.recordsFollowed.testSplit_testRejoin {s t : State} (h : s.recordsFollowed t) :
    s.couplingsFollowed t.testSplit.testRejoin
      (if s.coup.mode = .splitting ∧ s.cutBAll .silent = true then .split
       else if s.coup.mode = .rejoining ∧ s.cutBAll .present = true
           ∧ t.testSplit.testRejoin.splitsMade = true then .normal
       else s.coup.mode) := by
  have htest : t.testSplit = if s.coup.mode = .splitting ∧ s.cutBAll .silent = true
      then t.setSplitMode .split .keep none else t := by
    rw [State.testSplit, h.mode_eq, h.cutBAll_eq]
  by_cases haway : s.coup.mode = .splitting ∧ s.cutBAll .silent = true
  · rw [if_pos haway] at htest ⊢
    have hsplit : t.testSplit.coup.mode = .split := by rw [htest, setSplitMode_keep_coup]
    have hrejoin : t.testSplit.testRejoin = t.testSplit := if_neg (by simp [hsplit])
    rw [hrejoin, htest]
    obtain ⟨hsplitting, -⟩ := haway
    exact h.moves (by simp [hsplitting]) (by simp [hsplitting])
  · rw [if_neg haway] at htest ⊢
    rw [htest]
    exact h.testRejoin

/-- The tests of R120 and R122 leave the records. -/
theorem testSplit_testRejoin_records (s : State) : s.testSplit.testRejoin.coup.records = s.coup.records := by
  rw [testRejoin_records, State.testSplit]
  split
  · rw [setSplitMode_keep_coup]
  · rfl

/-! ## A reading handed over (R105) -/

/-- A reading that no record takes changes nothing (R105). -/
theorem couplingReading_none {s : State} {node ch : Nat} (h : s.couplingAt node ch = none) (r : Reading) :
    s.couplingReading node ch r = s := by
  simp only [State.couplingReading, h]

/-- The part with one record having taken a reading and the ceiling fallen to the capped value (R105, R115). -/
def State.readingTaken (s : State) (i : Nat) (e : CouplingEntry) (r : Reading) : State :=
  (s.modCoupling i (Coupling.take e r)).recomputeCeiling

/-- A reading that a record takes: where the record's state has changed, conditions 31 to 34 and the test of R122
follow. -/
theorem couplingReading_some {s : State} {node ch i : Nat} {e : CouplingEntry} (h : s.couplingAt node ch = some (i, e))
    (r : Reading) :
    s.couplingReading node ch r =
      if ((s.readingTaken i e r).coup.records[i]?).map (·.state) ≠ (s.coup.records[i]?).map (·.state) then
        (s.readingTaken i e r).evalCouplings.testRejoin
      else s.readingTaken i e r := by
  simp only [State.couplingReading, h, decide_eq_true_eq, ne_comm]
  rfl

/-- A reading moves the record that takes it and no other. -/
theorem couplingReading_records {s : State} {node ch i : Nat} {e : CouplingEntry}
    (h : s.couplingAt node ch = some (i, e)) (r : Reading) :
    (s.couplingReading node ch r).coup.records = s.coup.records.modify i (Coupling.take e r) := by
  rw [couplingReading_some h]
  split
  · have hcoup (t : State) : t.evalCouplings.coup = t.coup := by simp
    rw [testRejoin_records, hcoup]
    rfl
  · rfl

/-- What follows a reading that a record takes, by whether the record's state has changed (R111, R112, R115, R122). -/
theorem couplingReading_follows {s : State} {node ch i : Nat} {e : CouplingEntry}
    (h : s.couplingAt node ch = some (i, e)) (r : Reading) :
    let t := s.couplingReading node ch r
    let changed := (t.coup.records[i]?).map (·.state) ≠ (s.coup.records[i]?).map (·.state)
    (changed → s.couplingsFollowed t
        (if s.coup.mode = .rejoining ∧ s.cutBAll .present = true ∧ t.splitsMade = true then .normal
         else s.coup.mode))
      ∧ (¬ changed → t = { s with coup := { s.coup with
          records := t.coup.records, cTow := min s.coup.cTow t.cCap } }) := by
  intro t changed
  have htaken : (s.readingTaken i e r).coup.records = t.coup.records := (couplingReading_records h r).symm
  have ht : t = if changed then (s.readingTaken i e r).evalCouplings.testRejoin else s.readingTaken i e r := by
    simp only [changed, ← htaken]
    exact couplingReading_some h r
  refine ⟨fun hchanged => ?_, fun hkept => ?_⟩
  · rw [ht, if_pos hchanged]
    exact (recordsFollowed_ceiling_conditions s _).testRejoin
  · rw [ht, if_neg hkept]
    have hcap : (s.readingTaken i e r).cCap = (s.modCoupling i (Coupling.take e r)).cCap := cCap_congr rfl rfl rfl rfl
    rw [hcap]
    rfl

/-! ## A change of a node's state handed over (R110) -/

/-- The records of a node that becomes SILENT or FAULT, one by one (R110). -/
theorem loseNodeCouplings_records (s : State) (node : Nat) (cause : UnknownCause) (i : Nat) :
    (s.loseNodeCouplings node cause).coup.records[i]? = (s.coup.records[i]?).map fun c =>
      if (s.couplingEntries[i]?).any (fun e => e.nodeIndex = node + 1) ∧ c.state ≠ .opened then
        { c with state := .unknown, cause := some cause, taut := 0, slack := 0, sensor := 0 }
      else c := by
  simp only [State.loseNodeCouplings, State.withCoup_coup, List.getElem?_mapIdx, Coupling.loseNode]
  congr 1
  funext c
  cases s.couplingEntries[i]? with
  | none => simp
  | some e =>
    by_cases hnode : e.nodeIndex = node + 1 <;> by_cases hopened : c.state = .opened <;> simp [hnode, hopened]

/-- The part with the records of a node moved by the change of the node's state (R110). -/
def State.nodeTaken (s : State) (node : Nat) (x : TowNodeState) (code : Nat) : State :=
  match x with
  | .silent => s.loseNodeCouplings node .nodeSilent
  | .fault => s.loseNodeCouplings node (.nodeFault code)
  | .present => s
  | .absent => s

/-- A change of a node's state moves records alone; the conditions, the ceiling and the tests of R120 and R122 follow. -/
theorem couplingNodeChange_eq (s : State) (node : Nat) (x : TowNodeState) (code : Nat) :
    s.couplingNodeChange node x code =
      (s.withCoup { s.coup with records :=
          (s.nodeTaken node x code).coup.records }).evalCouplings.recomputeCeiling.testSplit.testRejoin := by
  cases x <;> rfl

/-- A change of a node's state makes the records of the node UNKNOWN, and no other. -/
theorem couplingNodeChange_records (s : State) (node : Nat) (x : TowNodeState) (code : Nat) :
    (s.couplingNodeChange node x code).coup.records = (s.nodeTaken node x code).coup.records := by
  rw [couplingNodeChange_eq, testSplit_testRejoin_records]
  simp [State.recomputeCeiling]

/-- What follows a change of a node's state (R111, R112, R115, R120, R122). -/
theorem couplingNodeChange_follows (s : State) (node : Nat) (x : TowNodeState) (code : Nat) :
    let t := s.couplingNodeChange node x code
    s.couplingsFollowed t
      (if s.coup.mode = .splitting ∧ s.cutBAll .silent = true then .split
       else if s.coup.mode = .rejoining ∧ s.cutBAll .present = true ∧ t.splitsMade = true then .normal
       else s.coup.mode) := by
  intro t
  rw [show t = _ from couplingNodeChange_eq s node x code]
  exact (recordsFollowed_conditions_ceiling s _).testSplit_testRejoin

/-- Settles O43: the reading as one record takes it, by the record's state; the reading and the change of a node's state
as the part takes them; and what follows either. -/
theorem readingsMoveTheCouplingRecord : Obligations.ReadingsMoveTheCouplingRecord := by
  unfold Obligations.ReadingsMoveTheCouplingRecord
  refine ⟨fun e c r h => if_pos h, fun e c t h => ?_, fun e c h => take_sensorFault h e, fun s node ch i e r => ?_,
    fun s node x code => ⟨fun i => ?_, couplingNodeChange_follows s node x code⟩⟩
  · intro taut slack dropped d
    let run : Coupling := { c with sensor := 0, taut := taut, slack := slack }
    have hd : d = { run with state := run.stateAfter e t, cause := none, last := some t } := by
      rw [show run = c.run e t from (run_eq c e t).symm]
      exact take_tension h e t
    rw [hd]
    exact ⟨rfl, rfl, rfl, rfl, rfl, fun hs => stateAfter_unknown (c := run) hs e t,
      fun hs => stateAfter_unmade (c := run) hs e t, fun hs => stateAfter_made (c := run) hs e t,
      fun hs => stateAfter_overload (c := run) hs e t, fun hs => stateAfter_slack (c := run) hs e t,
      fun hs => stateAfter_parted (c := run) hs e t⟩
  · exact ⟨fun h => couplingReading_none h r, fun h => ⟨couplingReading_records h r, couplingReading_follows h r⟩⟩
  · rw [couplingNodeChange_records]
    cases x with
    | absent => exact Option.map_id'.symm
    | present => exact Option.map_id'.symm
    | silent => exact loseNodeCouplings_records s node .nodeSilent i
    | fault => exact loseNodeCouplings_records s node (.nodeFault code) i

end Sys2Proof.Machine
end

section
/-! PROOFS. Fuel metering and tank books (chapter 7): increments booked into accounts and books (R134, R136, R151), and
a meter report's entry measured or closed by estimate (R131 to R133, R135). -/

namespace Sys2Proof.Machine

/-! ## Books (R136) -/

/-- Consumption comes off a balanced book. -/
theorem consume_of_balanced {b : Book} (h : b.balanced) (x : Int) :
    b.consume x = { b with consumption := b.consumption + x, book := b.book - x } := by
  unfold Book.balanced at h
  simp only [Book.consume, Book.refresh, h, Book.mk.injEq, true_and, and_true]
  omega

/-- A transfer's increment goes onto its destination's balanced book. -/
theorem addIn_of_balanced {b : Book} (h : b.balanced) (x : Int) :
    b.addIn x = { b with moveIn := b.moveIn + x, book := b.book + x } := by
  unfold Book.balanced at h
  simp only [Book.addIn, Book.refresh, h, Book.mk.injEq, true_and, and_true]
  omega

/-- A transfer's increment comes off its source's balanced book. -/
theorem addOut_of_balanced {b : Book} (h : b.balanced) (x : Int) :
    b.addOut x = { b with moveOut := b.moveOut + x, book := b.book - x } := by
  unfold Book.balanced at h
  simp only [Book.addOut, Book.refresh, h, Book.mk.injEq, true_and, and_true]
  omega

/-! ## Tanks by index -/

/-- A tank index names the record before it, and no other. -/
theorem ix12?_eq_some_iff (index : Nat) (j : Fin 12) : ix12? index = some j ↔ index = j.val + 1 := by
  unfold ix12?
  split
  · simp only [Option.some.injEq, Fin.ext_iff, Fin.val_ofNat]
    omega
  · simp only [reduceCtorEq, false_iff]
    omega

/-- The present tank of an index is the one the index names, with its entry. -/
theorem tankAt?_eq_some_iff (s : State) (index : Nat) (j : Fin 12) (x : TankEntry) :
    s.tankAt? index = some (j, x) ↔ index = j.val + 1 ∧ s.tank? j = some x := by
  unfold State.tankAt?
  cases hi : ix12? index with
  | none =>
    have hne : index ≠ j.val + 1 := fun h => by simp [(ix12?_eq_some_iff index j).mpr h] at hi
    simp [hne]
  | some i =>
    obtain rfl := (ix12?_eq_some_iff index i).mp hi
    constructor
    · intro h
      obtain ⟨y, hy, hyx⟩ := Option.map_eq_some_iff.mp h
      obtain ⟨rfl, rfl⟩ := Prod.mk.inj hyx
      exact ⟨rfl, hy⟩
    · rintro ⟨hij, hx⟩
      obtain rfl : i = j := Fin.ext (Nat.add_right_cancel hij)
      simp [hx]

/-- The tanks that are present are read from the tables alone. -/
theorem tank?_of_slots {s t : State} (h : t.store.slots = s.store.slots) (j : Fin 12) : t.tank? j = s.tank? j := by
  unfold State.tank?
  rw [tableImage_of_slots h]

/-- The consumers that are present are read from the tables alone. -/
theorem consumer?_of_slots {s t : State} (h : t.store.slots = s.store.slots) (j : Fin 6) :
    t.consumer? j = s.consumer? j := by
  unfold State.consumer?
  rw [tableImage_of_slots h]

/-- Reading a tank after one book has changed. -/
theorem tankRec_modBook (s : State) (i j : Fin 12) (f : Book → Book) :
    (s.modBook i f).tankRec j = if i = j then { s.tankRec j with book := f (s.tankRec j).book } else s.tankRec j := by
  simp only [State.tankRec, State.modBook, State.modTank, State.withFuel, Fin.ext_iff]
  exact upd_get ..

/-- Reading a tank after the book of a tank index has changed: the tank named, while present, and no other (R128). -/
theorem tankRec_bookOf (s : State) (index : Nat) (f : Book → Book) (j : Fin 12) :
    (s.bookOf index f).tankRec j =
      if index = j.val + 1 ∧ (s.tank? j).isSome = true then { s.tankRec j with book := f (s.tankRec j).book }
      else s.tankRec j := by
  unfold State.bookOf
  split
  next hnone =>
    rw [if_neg]
    rintro ⟨hindex, hsome⟩
    obtain ⟨x, hx⟩ := Option.isSome_iff_exists.mp hsome
    simp [(tankAt?_eq_some_iff s index j x).mpr ⟨hindex, hx⟩] at hnone
  next i x hsome =>
    obtain ⟨rfl, hx⟩ := (tankAt?_eq_some_iff s index i x).mp hsome
    rw [tankRec_modBook]
    by_cases hij : i = j
    · subst hij
      simp [hx]
    · have hne : i.val ≠ j.val := fun h => hij (Fin.ext h)
      simp [hij, hne]

/-- A change of a book touches no consumer and leaves the save timer. -/
@[simp] theorem bookOf_consumers_saveDue (s : State) (index : Nat) (f : Book → Book) :
    (s.bookOf index f).fuel.consumers = s.fuel.consumers ∧ (s.bookOf index f).fuel.saveDue = s.fuel.saveDue := by
  unfold State.bookOf
  split <;> exact ⟨rfl, rfl⟩

/-- A change of a book touches no consumer. -/
@[simp] theorem consumerAt_bookOf (s : State) (index : Nat) (f : Book → Book) (j : Fin 6) :
    (s.bookOf index f).consumerAt j = s.consumerAt j := by
  simp [State.consumerAt]

/-! ## A charge (R134) -/

/-- What an accumulation computes, over the integers: the floor of the quotient and what it leaves. -/
theorem accumulate_eq (k : Nat) (remainder n f : Int) :
    accumulate k remainder n f = ((remainder + n * f) / (1000 * k), (remainder + n * f) % (1000 * k)) := by
  simp [accumulate]

/-- A consumer with the quantities of an accumulation booked: the increment in the total, and the new remainder. -/
def Consumer.charged (r : Int × Int) (c : Consumer) : Consumer :=
  { c with account := { c.account with total := c.account.total + r.1, remainder := r.2 } }

section charge

variable {s : State} {i : Fin 6} {e : ConsumerEntry} {n f : Int} {r : Int × Int}
  (hr : accumulate e.k (s.consumerAt i).account.remainder n f = r)
include hr

/-- A charge books its accumulation, and consumes an increment other than 0 from the feed tank. -/
theorem charge_eq :
    s.charge i e n f =
      if r.1 = 0 then s.modConsumer i (Consumer.charged r)
      else (s.modConsumer i (Consumer.charged r)).bookOf (s.feedTankOf i) (Book.consume r.1) := by
  subst hr
  rfl

/-- The record a charge leaves. -/
theorem charge_consumerAt_self : (s.charge i e n f).consumerAt i = (s.consumerAt i).charged r := by
  rw [charge_eq hr]
  split <;> simp [State.consumerAt_modConsumer]

/-- A charge consumes its increment from the feed tank, while that tank is present, and moves no other book. -/
theorem charge_tankRec {j : Fin 12} (hbalanced : (s.tankRec j).book.balanced) :
    (s.charge i e n f).tankRec j =
      if s.feedTankOf i = j.val + 1 ∧ (s.tank? j).isSome = true then
        { s.tankRec j with book :=
          { (s.tankRec j).book with
            consumption := (s.tankRec j).book.consumption + r.1, book := (s.tankRec j).book.book - r.1 } }
      else s.tankRec j := by
  have htank : (s.modConsumer i (Consumer.charged r)).tankRec j = s.tankRec j := rfl
  have hpresent : (s.modConsumer i (Consumer.charged r)).tank? j = s.tank? j := tank?_of_slots rfl j
  rw [charge_eq hr]
  by_cases hzero : r.1 = 0
  · rw [if_pos hzero, htank]
    simp [hzero]
  · rw [if_neg hzero, tankRec_bookOf, htank, hpresent, consume_of_balanced hbalanced]

end charge

/-- A charge leaves every other consumer. -/
theorem charge_consumerAt_other (s : State) {i j : Fin 6} (e : ConsumerEntry) (n f : Int) (h : j ≠ i) :
    (s.charge i e n f).consumerAt j = s.consumerAt j := by
  rw [State.consumerAt_charge, if_neg (Ne.symm h)]

/-- A charge leaves the save timer. -/
@[simp] theorem charge_saveDue (s : State) (i : Fin 6) (e : ConsumerEntry) (n f : Int) :
    (s.charge i e n f).fuel.saveDue = s.fuel.saveDue := by
  rw [charge_eq rfl]
  split
  · rfl
  · exact (bookOf_consumers_saveDue _ _ _).2

/-- A charge stays within the fuel unit. -/
theorem charge_sameBut (s : State) (i : Fin 6) (e : ConsumerEntry) (n f : Int) :
    s.sameBut (s.charge i e n f) [.fuel] := by
  intro p hp
  cases p <;> simp [State.agree] at hp ⊢

/-! ## A transfer increment (R136, R151) -/

/-- The run with an increment added: to moved, and in TRAILER to the trailer's too. -/
def Run.moving (state : RunState) (inc : Int) (r : Run) : Run :=
  { r with moved := r.moved + inc, trailer := if state = .trailer then r.trailer + inc else r.trailer }

/-- An increment moves the run, and where it is not 0 the books of destination and source. -/
theorem bookIncrement_eq {s : State} {r : Run} (h : s.transfer.run = some r) (inc : Int) :
    let moved := s.withTransfer { s.transfer with run := some (r.moving s.transfer.state inc) }
    s.bookIncrement inc =
      if inc = 0 then moved else (moved.bookOf r.dest (Book.addIn inc)).bookOf r.source (Book.addOut inc) := by
  unfold State.bookIncrement
  rw [h]
  rfl

/-- What an increment leaves of the transfer controller: the run moved on. -/
theorem bookIncrement_transfer {s : State} {r : Run} (h : s.transfer.run = some r) (inc : Int) :
    (s.bookIncrement inc).transfer = { s.transfer with run := some (r.moving s.transfer.state inc) } := by
  rw [bookIncrement_eq h]
  split <;> simp

/-- An increment touches no consumer. -/
theorem bookIncrement_consumers (s : State) (inc : Int) :
    (s.bookIncrement inc).fuel.consumers = s.fuel.consumers := by
  cases h : s.transfer.run with
  | none => simp [State.bookIncrement, h]
  | some r =>
    rw [bookIncrement_eq h]
    split <;> simp

/-- An increment between two present tanks goes into the destination's in and the source's out, and to no other. -/
theorem bookIncrement_tankRec {s : State} {r : Run} {i j : Fin 12} (h : s.transfer.run = some r) (hij : i ≠ j)
    (hsource : r.source = i.val + 1) (hdest : r.dest = j.val + 1) (hi : (s.tank? i).isSome = true)
    (hj : (s.tank? j).isSome = true) {x : Fin 12} (hbalanced : (s.tankRec x).book.balanced) (inc : Int) :
    let b := (s.tankRec x).book
    (s.bookIncrement inc).tankRec x =
      if x = i then { s.tankRec x with book := { b with moveOut := b.moveOut + inc, book := b.book - inc } }
      else if x = j then { s.tankRec x with book := { b with moveIn := b.moveIn + inc, book := b.book + inc } }
      else s.tankRec x := by
  let moved := s.withTransfer { s.transfer with run := some (r.moving s.transfer.state inc) }
  have htank : moved.tankRec x = s.tankRec x := rfl
  have hpresent : moved.tank? x = s.tank? x := tank?_of_slots rfl x
  have hpresent' : (moved.bookOf r.dest (Book.addIn inc)).tank? x = s.tank? x := tank?_of_slots (by simp [moved]) x
  have hnames (y : Fin 12) (hy : (s.tank? y).isSome = true) :
      (y.val + 1 = x.val + 1 ∧ (s.tank? x).isSome = true) ↔ x = y := by
    constructor
    · exact fun hyx => (Fin.ext (Nat.add_right_cancel hyx.1)).symm
    · rintro rfl
      exact ⟨rfl, hy⟩
  rw [bookIncrement_eq h]
  split
  next hzero => simp [hzero, State.tankRec]
  next =>
    rw [tankRec_bookOf, tankRec_bookOf, hpresent', hpresent, htank, hsource, hdest]
    simp only [hnames i hi, hnames j hj]
    by_cases hxi : x = i
    · have hxj : x ≠ j := hxi ▸ hij
      rw [if_pos hxi, if_pos hxi, if_neg hxj, addOut_of_balanced hbalanced]
    · rw [if_neg hxi, if_neg hxi, addIn_of_balanced hbalanced]

/-- Settles O46: an increment is the floor of its quotient, so that total and remainder together lose nothing, and every
book it reaches is one that was balanced. -/
theorem incrementsAreBookedWhole : Obligations.IncrementsAreBookedWhole := by
  unfold Obligations.IncrementsAreBookedWhole
  constructor
  · intro s i e n f hk hbalanced c k inc t a
    have hpos : 0 < k := by omega
    have hsum := accumulate_eq e.k c.account.remainder n f
    have hself : t.consumerAt i = c.charged (inc, (c.account.remainder + n * f) % k) := charge_consumerAt_self hsum
    have htotal : a.total = c.account.total + inc := congrArg (·.account.total) hself
    have hremainder : a.remainder = (c.account.remainder + n * f) % k := congrArg (·.account.remainder) hself
    refine ⟨htotal, ?_, ?_, ?_, ?_, fun j hj => charge_consumerAt_other s e n f hj, 
      fun j => charge_tankRec hsum (hbalanced j), charge_saveDue s i e n f,
      charge_sameBut s i e n f⟩
    · rw [hremainder]
      exact Int.emod_nonneg _ hpos.ne'
    · rw [hremainder]
      exact Int.emod_lt_of_pos _ hpos
    · have hsplit : inc * k + (c.account.remainder + n * f) % k = c.account.remainder + n * f :=
        Int.ediv_mul_add_emod ..
      rw [htotal, hremainder, add_mul, add_assoc, hsplit, add_assoc]
    · rw [htotal, hremainder]
      exact hself
  · intro s r i j inc hrun hij hsource hdest hi hj hbalanced t
    refine ⟨bookIncrement_transfer hrun inc,
      fun x => bookIncrement_tankRec hrun hij hsource hdest hi hj (hbalanced x) inc, bookIncrement_consumers s inc,
      fun p hp => ?_⟩
    cases p <;> simp [State.agree, t] at hp ⊢

/-! ## METER FAULT (R135) -/

/-- The evaluation of METER FAULT leaves every consumer. -/
@[simp] theorem evalMeterFault_consumerAt (s : State) (j : Fin 6) :
    s.evalMeterFault.consumerAt j = s.consumerAt j := by
  simp [State.consumerAt]

/-- The evaluation of METER FAULT leaves it standing with its cause. -/
theorem evalMeterFault_follows (s : State) : s.evalMeterFault.meterFaultFollows := by
  have hpresent (j : Fin 6) : s.evalMeterFault.consumer? j = s.consumer? j := consumer?_of_slots (by simp) j
  have hsource : s.evalMeterFault.sourceOf 41 =
      (Bank.indices 6).any fun j => (s.consumer? j).isSome && (s.consumerAt j).meterFault := by
    simp only [State.evalMeterFault, srcOf_set _ 41 (by omega) 41 (by omega), if_true]
  unfold State.meterFaultFollows
  rw [hsource]
  simp [Bank.indices, hpresent, Option.isSome_iff_ne_none]

/-- The evaluation of METER FAULT moves no other condition. -/
theorem evalMeterFault_condsBut (s : State) : s.condsBut s.evalMeterFault [41] :=
  setSource_condsBut _ 41 _ _ List.mem_cons_self

/-! ## The close of a meter entry (R132, R133) -/

/-- Two changes of one consumer are one change. -/
theorem modConsumer_modConsumer (s : State) (i : Fin 6) (f g : Consumer → Consumer) :
    (s.modConsumer i f).modConsumer i g = s.modConsumer i fun x => g (f x) := by
  simp [State.modConsumer, State.withFuel, Bank.upd]

/-- A change of a consumer is what it makes of that consumer's record. -/
theorem modConsumer_congr {s : State} {i : Fin 6} {f g : Consumer → Consumer}
    (h : f (s.consumerAt i) = g (s.consumerAt i)) : s.modConsumer i f = s.modConsumer i g := by
  unfold State.consumerAt at h
  simp [State.modConsumer, Bank.upd, h]

/-- The temperature of an entry and the last valid one it leaves (R133). -/
theorem takeTemp_eq (last : Option Int) (code : Nat) :
    takeTemp last code =
      (if code ≠ 0x8000 then max (-200) (min 1200 (signed16 code)) else last.getD 150,
       if code ≠ 0x8000 then some (max (-200) (min 1200 (signed16 code))) else last) := by
  unfold takeTemp
  by_cases h : code = 0x8000 <;> simp [h]

/-- `s` once the entry `m` of consumer i + 1 is closed: rebased on the entry, with the estimate it then holds and its
meter fault, and METER FAULT evaluated. -/
def State.entryClosed (s : State) (i : Fin 6) (m : MeterEntry) (held : Option HeldEstimate) (fault : Bool) : State :=
  (s.modConsumer i fun x => { x.rebase m with held := held, meterFault := fault }).evalMeterFault

/-- The record the close of an entry leaves. -/
theorem entryClosed_consumerAt_self (s : State) (i : Fin 6) (m : MeterEntry) (held : Option HeldEstimate)
    (fault : Bool) :
    (s.entryClosed i m held fault).consumerAt i =
      { (s.consumerAt i).rebase m with held := held, meterFault := fault } := by
  simp [State.entryClosed, State.consumerAt_modConsumer]

/-- The close of an entry leaves every other consumer. -/
theorem entryClosed_consumerAt_other (s : State) {i j : Fin 6} (m : MeterEntry) (held : Option HeldEstimate)
    (fault : Bool) (h : j ≠ i) : (s.entryClosed i m held fault).consumerAt j = s.consumerAt j := by
  simp [State.entryClosed, State.consumerAt_modConsumer, h.symm]

/-- The close of an entry moves no tank. -/
@[simp] theorem entryClosed_tanks (s : State) (i : Fin 6) (m : MeterEntry) (held : Option HeldEstimate)
    (fault : Bool) : (s.entryClosed i m held fault).fuel.tanks = s.fuel.tanks := by
  simp [State.entryClosed, State.modConsumer]

/-- The close of an entry moves no condition but METER FAULT. -/
theorem entryClosed_condsBut (s : State) (i : Fin 6) (m : MeterEntry) (held : Option HeldEstimate) (fault : Bool) :
    s.condsBut (s.entryClosed i m held fault) [41] :=
  condsBut_trans (condsBut_of_cond (by simp) _) (evalMeterFault_condsBut _)

/-! ## The findings of a meter entry (R131, R132) -/

/-- A consumer with the reports of a gap counted as unmetered. -/
def Consumer.unmeteredBy (gap : Nat) (c : Consumer) : Consumer :=
  { c with account := { c.account with unmetered := min 65535 (c.account.unmetered + gap + 1) } }

/-- An estimate is a charge of the held net pulses over the gap, counted as unmetered. -/
theorem estimate_eq (s : State) (i : Fin 6) (e : ConsumerEntry) (h : HeldEstimate) (gap : Nat) :
    s.estimate i e h gap =
      (s.charge i e ((gap + 1 : Nat) * h.net) h.factor).modConsumer i (Consumer.unmeteredBy gap) := rfl

/-- The record an estimate leaves. -/
theorem estimate_consumerAt_self (s : State) (i : Fin 6) (e : ConsumerEntry) (h : HeldEstimate) (gap : Nat) :
    (s.estimate i e h gap).consumerAt i =
      ((s.charge i e ((gap + 1 : Nat) * h.net) h.factor).consumerAt i).unmeteredBy gap := by
  rw [estimate_eq, State.consumerAt_modConsumer, if_pos rfl]

/-- Whether the delta of the entry `m` against the baseline of consumer i + 1 is accepted (R132). -/
def State.accepts (s : State) (i : Fin 6) (e : ConsumerEntry) (m : MeterEntry) : Bool :=
  let c := s.consumerAt i
  deltaAccepted e.glitch c.gap (countDelta m.supply c.baseSupply) (countDelta m.ret c.baseReturn)

/-- The net pulses of the entry `m` against the baseline of consumer i + 1 (R132). -/
def State.netPulses (s : State) (i : Fin 6) (m : MeterEntry) : Int :=
  let c := s.consumerAt i
  (countDelta m.supply c.baseSupply : Int) - countDelta m.ret c.baseReturn

/-- The volume correction factor at the temperature of the entry `m` (R133). -/
def State.factorAt (s : State) (i : Fin 6) (e : ConsumerEntry) (m : MeterEntry) : Int :=
  volumeFactor e.alpha (takeTemp (s.consumerAt i).account.lastTemp m.temp).1

/-- The estimate an accepted entry leaves: its net pulses per report, toward zero, at its factor (R132). -/
def State.newEstimate (s : State) (i : Fin 6) (e : ConsumerEntry) (m : MeterEntry) : HeldEstimate :=
  { net := (s.netPulses i m).tdiv (((s.consumerAt i).gap + 1 : Nat) : Int), factor := s.factorAt i e m }

section findings

variable {s : State} {i : Fin 6} {e : ConsumerEntry} {m : MeterEntry}

/-- The test of R132 on a delta. -/
theorem accepts_iff :
    s.accepts i e m = true ↔
      (s.consumerAt i).gap + 1 < 16
        ∧ (m.supply + 65536 - (s.consumerAt i).baseSupply) % 65536 ≤ e.glitch * ((s.consumerAt i).gap + 1)
        ∧ (m.ret + 65536 - (s.consumerAt i).baseReturn) % 65536 ≤ e.glitch * ((s.consumerAt i).gap + 1) := by
  simp only [State.accepts, deltaAccepted, Bool.and_eq_true, decide_eq_true_eq, and_assoc]
  rfl

/-- An accepted delta is charged and held as the estimate, and clears the meter fault. -/
theorem meterEntry_measured (hbase : (s.consumerAt i).baseValid = true) (haccepted : s.accepts i e m = true) :
    s.meterEntry i e m =
      (s.charge i e (s.netPulses i m) (s.factorAt i e m)).entryClosed i m (some (s.newEstimate i e m)) false := by
  unfold State.accepts at haccepted
  simp only [State.meterEntry, State.meterMeasured, hbase, haccepted, if_true]
  rfl

/-- A rejected delta, and a first entry after a loss, is closed by the held estimate and sets the meter fault. -/
theorem meterEntry_estimated {h : HeldEstimate}
    (hlost : (s.consumerAt i).baseValid = false ∨ s.accepts i e m = false) (hheld : (s.consumerAt i).held = some h) :
    s.meterEntry i e m = (s.estimate i e h (s.consumerAt i).gap).entryClosed i m (some h) true := by
  have hkeeps :
      (s.estimate i e h (s.consumerAt i).gap).modConsumer i (fun x => { x.rebase m with meterFault := true }) =
        (s.estimate i e h (s.consumerAt i).gap).modConsumer i
          fun x => { x.rebase m with held := some h, meterFault := true } := by
    apply modConsumer_congr
    rw [estimate_consumerAt_self, charge_consumerAt_self rfl, ← hheld]
    rfl
  unfold State.accepts at hlost
  cases hbase : (s.consumerAt i).baseValid with
  | true =>
    have hrejected := hlost.resolve_left (by simp [hbase])
    simp only [State.meterEntry, State.meterMeasured, hbase, hrejected, hheld, if_true, Bool.false_eq_true, if_false,
      State.entryClosed, hkeeps]
  | false =>
    simp only [State.meterEntry, State.meterRebased, hbase, hheld, Bool.false_eq_true, if_false, State.entryClosed,
      hkeeps]

/-- A rejected delta without an estimate is counted as unmetered and sets the meter fault. -/
theorem meterEntry_unestimated (hbase : (s.consumerAt i).baseValid = true) (hrejected : s.accepts i e m = false)
    (hheld : (s.consumerAt i).held = none) :
    s.meterEntry i e m =
      (s.modConsumer i (Consumer.unmeteredBy (s.consumerAt i).gap)).entryClosed i m none true := by
  unfold State.accepts at hrejected
  simp only [State.meterEntry, State.meterMeasured, hbase, hrejected, hheld, if_true, Bool.false_eq_true, if_false,
    State.entryClosed, modConsumer_modConsumer]
  congr 1
  apply modConsumer_congr
  rw [← hheld]
  rfl

/-- A first entry without an estimate only sets the baselines. -/
theorem meterEntry_first (hbase : (s.consumerAt i).baseValid = false) (hheld : (s.consumerAt i).held = none) :
    s.meterEntry i e m = s.entryClosed i m none (s.consumerAt i).meterFault := by
  simp only [State.meterEntry, State.meterRebased, hbase, hheld, Bool.false_eq_true, if_false, State.entryClosed]
  congr 1
  apply modConsumer_congr
  rw [← hheld]
  rfl

/-! ## What every meter entry leaves -/

/-- `t` is `s` but for fuel booked for consumer i + 1: its total, its remainder, its unmetered count, and books. -/
def State.bookedFor (s t : State) (i : Fin 6) : Prop :=
  (∃ (total remainder : Int) (unmetered : Nat), t.consumerAt i =
      { s.consumerAt i with account :=
        { (s.consumerAt i).account with total := total, remainder := remainder, unmetered := unmetered } })
    ∧ (∀ j : Fin 6, j ≠ i → t.consumerAt j = s.consumerAt j) ∧ s.sameBut t [.fuel]

/-- A charge is fuel booked for its consumer. -/
theorem bookedFor_charge (n f : Int) : s.bookedFor (s.charge i e n f) i :=
  ⟨⟨_, _, _, charge_consumerAt_self rfl⟩, fun _ hj => charge_consumerAt_other s e n f hj, charge_sameBut s i e n f⟩

/-- Counting reports as unmetered books for their consumer alone. -/
theorem State.bookedFor.unmetered {t : State} (h : s.bookedFor t i) (gap : Nat) :
    s.bookedFor (t.modConsumer i (Consumer.unmeteredBy gap)) i := by
  obtain ⟨⟨total, remainder, unmetered, hself⟩, hother, hsame⟩ := h
  refine ⟨⟨total, remainder, min 65535 (unmetered + gap + 1), ?_⟩, fun j hj => ?_, sameBut_trans hsame fun p hp => ?_⟩
  · rw [State.consumerAt_modConsumer, if_pos rfl, hself]
    rfl
  · rw [State.consumerAt_modConsumer, if_neg hj.symm, hother j hj]
  · cases p <;> simp [State.agree] at hp ⊢

/-- Nothing booked. -/
theorem bookedFor_self : s.bookedFor s i :=
  ⟨⟨_, _, _, rfl⟩, fun _ _ => rfl, fun p _ => by cases p <;> rfl⟩

/-- Whatever an entry finds, it is closed after a booking for its consumer. -/
theorem meterEntry_closed (s : State) (i : Fin 6) (e : ConsumerEntry) (m : MeterEntry) :
    ∃ (t : State) (held : Option HeldEstimate) (fault : Bool),
      s.bookedFor t i ∧ s.meterEntry i e m = t.entryClosed i m held fault := by
  cases hbase : (s.consumerAt i).baseValid with
  | true =>
    cases haccepted : s.accepts i e m with
    | true => exact ⟨_, _, _, bookedFor_charge _ _, meterEntry_measured hbase haccepted⟩
    | false =>
      cases hheld : (s.consumerAt i).held with
      | some h => exact ⟨_, _, _, (bookedFor_charge _ _).unmetered _, meterEntry_estimated (.inr haccepted) hheld⟩
      | none => exact ⟨_, _, _, bookedFor_self.unmetered _, meterEntry_unestimated hbase haccepted hheld⟩
  | false =>
    cases hheld : (s.consumerAt i).held with
    | some h => exact ⟨_, _, _, (bookedFor_charge _ _).unmetered _, meterEntry_estimated (.inl hbase) hheld⟩
    | none => exact ⟨_, _, _, bookedFor_self, meterEntry_first hbase hheld⟩

/-- What an entry leaves of its consumer's record outside the booking, its estimate and its meter fault. -/
theorem meterEntry_consumerAt_self (s : State) (i : Fin 6) (e : ConsumerEntry) (m : MeterEntry) :
    let d := (s.meterEntry i e m).consumerAt i
    d.baseValid = true ∧ d.baseSupply = m.supply ∧ d.baseReturn = m.ret ∧ d.gap = 0 ∧ d.tempCode = some m.temp
      ∧ d.account.lastTemp = (takeTemp (s.consumerAt i).account.lastTemp m.temp).2
      ∧ d.account.valid = (s.consumerAt i).account.valid := by
  obtain ⟨t, held, fault, ⟨⟨total, remainder, unmetered, hself⟩, -, -⟩, hclosed⟩ := meterEntry_closed s i e m
  rw [hclosed, entryClosed_consumerAt_self, hself]
  exact ⟨rfl, rfl, rfl, rfl, rfl, rfl, rfl⟩

/-- An entry leaves every other consumer. -/
theorem meterEntry_consumerAt_other (s : State) {i j : Fin 6} (e : ConsumerEntry) (m : MeterEntry) (h : j ≠ i) :
    (s.meterEntry i e m).consumerAt j = s.consumerAt j := by
  obtain ⟨t, held, fault, ⟨-, hother, -⟩, hclosed⟩ := meterEntry_closed s i e m
  rw [hclosed, entryClosed_consumerAt_other t m held fault h, hother j h]

/-- An entry leaves METER FAULT standing with its cause, and moves no other condition. -/
theorem meterEntry_meterFault (s : State) (i : Fin 6) (e : ConsumerEntry) (m : MeterEntry) :
    (s.meterEntry i e m).meterFaultFollows ∧ s.condsBut (s.meterEntry i e m) [41] := by
  obtain ⟨t, held, fault, ⟨-, -, hsame⟩, hclosed⟩ := meterEntry_closed s i e m
  have hcond : t.cond = s.cond := hsame .cond (by simp)
  rw [hclosed]
  exact ⟨evalMeterFault_follows _, condsBut_trans (condsBut_of_cond hcond _) (entryClosed_condsBut t i m held fault)⟩

/-! ## A meter entry's books -/

/-- A charge leaves its consumer's unmetered count. -/
theorem charge_unmetered (n f : Int) :
    ((s.charge i e n f).consumerAt i).account.unmetered = (s.consumerAt i).account.unmetered := by
  rw [charge_consumerAt_self rfl]
  rfl

/-- What an entry closed by the held estimate leaves of account, estimate, meter fault and tanks. -/
theorem meterEntry_estimated_books {h : HeldEstimate}
    (hlost : (s.consumerAt i).baseValid = false ∨ s.accepts i e m = false) (hheld : (s.consumerAt i).held = some h) :
    let u := s.charge i e (((s.consumerAt i).gap + 1 : Nat) * h.net) h.factor
    let t := s.meterEntry i e m
    let d := t.consumerAt i
    d.account.total = (u.consumerAt i).account.total ∧ d.account.remainder = (u.consumerAt i).account.remainder
      ∧ d.account.unmetered = min 65535 ((s.consumerAt i).account.unmetered + (s.consumerAt i).gap + 1)
      ∧ d.held = some h ∧ d.meterFault = true ∧ t.fuel.tanks = u.fuel.tanks := by
  dsimp only
  rw [meterEntry_estimated hlost hheld, entryClosed_consumerAt_self, estimate_consumerAt_self, entryClosed_tanks,
    ← charge_unmetered (e := e) (((s.consumerAt i).gap + 1 : Nat) * h.net) h.factor]
  exact ⟨rfl, rfl, rfl, rfl, rfl, rfl⟩

end findings

/-- Settles O47: the four findings of an entry, each as a booking that the same close follows. -/
theorem meterEntriesAreMeasuredOrEstimated : Obligations.MeterEntriesAreMeasuredOrEstimated := by
  unfold Obligations.MeterEntriesAreMeasuredOrEstimated
  intro s i e m c g ds dr accepted valid degrees factor t d estimated kept
  have htemp := takeTemp_eq c.account.lastTemp m.temp
  have hfactor : s.factorAt i e m = factor := by
    unfold State.factorAt
    rw [htemp]
    rfl
  have hrejected (h : ¬ accepted) : s.accepts i e m = false := Bool.eq_false_iff.mpr (mt accepts_iff.mp h)
  obtain ⟨hbase, hsupply, hreturn, hgap, hcode, hlast, hvalid⟩ := meterEntry_consumerAt_self s i e m
  obtain ⟨hfollows, hconds⟩ := meterEntry_meterFault s i e m
  refine ⟨hbase, hsupply, hreturn, hgap, hcode, ?_, hvalid, ?measured, ?rejected, ?first,
    fun j hj => meterEntry_consumerAt_other s e m hj, hfollows, hconds, fun p hp => ?_⟩
  · rw [hlast, htemp]
    by_cases h : valid <;> simp [valid, degrees, h]
  case measured =>
    intro hbase haccepted
    have ht : t = _ := meterEntry_measured hbase (accepts_iff.mpr haccepted)
    have hd : d = _ := (congrArg (·.consumerAt i) ht).trans (entryClosed_consumerAt_self ..)
    rw [hd, ht, entryClosed_tanks, State.newEstimate, hfactor]
    exact ⟨rfl, rfl, rfl, charge_unmetered _ _, rfl, rfl⟩
  case rejected =>
    intro hbase hnot
    refine ⟨fun h hheld => meterEntry_estimated_books (.inr (hrejected hnot)) hheld, fun hheld => ?_⟩
    have ht : t = _ := meterEntry_unestimated hbase (hrejected hnot) hheld
    have hd : d = _ := (congrArg (·.consumerAt i) ht).trans (entryClosed_consumerAt_self ..)
    rw [State.consumerAt_modConsumer, if_pos rfl] at hd
    have htanks : t.fuel.tanks = s.fuel.tanks := by
      rw [ht, entryClosed_tanks]
      rfl
    dsimp only [kept]
    rw [hd]
    exact ⟨⟨rfl, rfl, htanks⟩, rfl, rfl, rfl⟩
  case first =>
    intro hbase
    refine ⟨fun h hheld => meterEntry_estimated_books (.inl hbase) hheld, fun hheld => ?_⟩
    have ht : t = _ := meterEntry_first hbase hheld
    have hd : d = _ := (congrArg (·.consumerAt i) ht).trans (entryClosed_consumerAt_self ..)
    have htanks : t.fuel.tanks = s.fuel.tanks := by rw [ht, entryClosed_tanks]
    dsimp only [kept]
    rw [hd]
    exact ⟨⟨rfl, rfl, htanks⟩, rfl, rfl, rfl⟩
  · cases p <;> simp [State.agree, t] at hp ⊢

end Sys2Proof.Machine
end

section
/-! PROOFS. Conditions and reactions (chapter 9): the moves of an alarm state (R164), priority and acknowledgement
(R165, R172, R173), and what the condition unit publishes (R168, R170, R171, R174). -/

namespace Sys2Proof.Machine

/-! ## The moves of one alarm state (R164) -/

/-- The two unacknowledged alarm states. -/
theorem unacked_iff (a : AlarmState) : a.unacked = true ↔ a = .activeUnacked ∨ a = .clearedUnacked := by
  cases a <;> simp [AlarmState.unacked]

/-- An acknowledgement leaves nothing unacknowledged. -/
@[simp] theorem unacked_onAck (a : AlarmState) : a.onAck.unacked = false := by
  cases a <;> rfl

/-- R172's two moves: ACTIVE-UNACKED to ACTIVE-ACKED, CLEARED-UNACKED to NORMAL. -/
theorem onAck_of_unacked {a : AlarmState} (h : a.unacked = true) :
    a.onAck = if a = .activeUnacked then .activeAcked else .normal := by
  rcases (unacked_iff a).1 h with rfl | rfl <;> rfl

/-- An acknowledgement keeps an active code active and a clear one clear. -/
theorem onAck_active_iff (a : AlarmState) :
    (a.onAck = .activeUnacked ∨ a.onAck = .activeAcked) ↔ (a = .activeUnacked ∨ a = .activeAcked) := by
  cases a <;> simp [AlarmState.onAck]

/-- A source that shows what the alarm state shows already moves it nowhere. -/
theorem onSource_of_active_iff {a : AlarmState} {b : Bool}
    (h : b = true ↔ (a = .activeUnacked ∨ a = .activeAcked)) : a.onSource b = a := by
  cases a <;> cases b <;> simp_all [AlarmState.onSource]

/-! ## Hand-overs and acknowledgements in the part (R163, R164) -/

/-- Handing over what the flag shows already changes nothing (R163). -/
theorem setSource_of_eq {s : State} {i : Fin 45} {b : Bool} (h : s.cond.source[i.val] = b) :
    s.setSource (i.val + 1) b = s := by
  simp only [State.setSource, condIx_succ i.val i.isLt, CondUnit.hand, h, if_true]
  rfl

/-- Where alarm states follow their sources, a hand-over moves its own code by R164's table. -/
theorem setSource_alarm_self {s : State} (hfollow : s.cond.alarmsFollow) (i : Fin 45) (b : Bool) :
    (s.setSource (i.val + 1) b).cond.alarm[i.val] = (s.cond.alarm[i.val]).onSource b := by
  by_cases h : s.cond.source[i.val] = b
  · have hshown := hfollow i
    rw [setSource_of_eq h, onSource_of_active_iff (h ▸ hshown)]
  · rw [setSource_cond s i.val i.isLt]
    simp [CondUnit.hand, h, upd_get]

/-- A hand-over changes the condition unit alone. -/
theorem setSource_sameBut (s : State) (code : Nat) (b : Bool) : s.sameBut (s.setSource code b) [.cond] := by
  intro p hp
  cases p <;> simp [State.agree] at hp ⊢

/-- The alarm states after an acknowledgement: its own code has moved, and no other (R164). -/
theorem acknowledge_alarm (s : State) (i j : Fin 45) :
    (s.acknowledge i).cond.alarm[j.val] = if i.val = j.val then (s.cond.alarm[j.val]).onAck else s.cond.alarm[j.val] :=
  upd_get _ _ _ _ _

/-- An acknowledgement moves no source. -/
@[simp] theorem acknowledge_source (s : State) (i : Fin 45) : (s.acknowledge i).cond.source = s.cond.source := rfl

/-- An acknowledgement changes the condition unit alone. -/
theorem acknowledge_sameBut (s : State) (i : Fin 45) : s.sameBut (s.acknowledge i) [.cond] := by
  intro p hp
  cases p <;> simp [State.agree] at hp ⊢

/-- After an acknowledgement alarm states still follow their sources. -/
theorem acknowledge_alarmsFollow {s : State} (hfollow : s.cond.alarmsFollow) (i : Fin 45) :
    (s.acknowledge i).cond.alarmsFollow := by
  intro j
  rw [acknowledge_source, acknowledge_alarm, hfollow j]
  split
  · exact (onAck_active_iff _).symm
  · rfl

/-- The part after the acknowledgement of an unacknowledged code: that code's alarm state has moved, nothing else. -/
theorem acknowledge_of_unacked {s : State} {i : Fin 45} (h : (s.cond.alarm[i.val]).unacked = true) :
    s.acknowledge i = { s with cond := { s.cond with
      alarm := s.cond.alarm.set i.val (if s.cond.alarm[i.val] = .activeUnacked then .activeAcked else .normal) } } := by
  rw [← onAck_of_unacked h]
  rfl

/-- What an acknowledgement leaves unacknowledged: every other code that was. -/
theorem acknowledge_unackedCount (s : State) (i : Fin 45) :
    (s.acknowledge i).unackedCount =
      (List.finRange 45).countP fun j => j ≠ i && (s.cond.alarm[j.val]).unacked := by
  rw [State.unackedCount, Bank.indices, ← List.countP_eq_length_filter]
  refine List.countP_congr fun j _ => ?_
  rw [acknowledge_alarm]
  by_cases h : i = j
  · simp [h]
  · have hother : j ≠ i := fun hji => h hji.symm
    simp [hother, Fin.val_inj, h]

/-! ## ACK (R172) -/

/-- An offered ACK acts on the state in which its event has been taken (R4, R172). -/
theorem exec_ack_offered {s : State} {n : Fin 4} {count : Nat} (e : Env) (h : s.offers n count) :
    exec (.ack e (n.val + 1) count) s = .next (((s.tookEvent e n count).ackHighest).setResult n .accepted) :=
  congrArg Host.Outcome.next (eventFrom_offers h .ack)

/-- With no code unacknowledged an ACK changes nothing. -/
theorem ackHighest_of_none {s : State} (h : s.highestUnacked = none) : s.ackHighest = s := by
  simp only [State.ackHighest, h]

/-- An ACK acknowledges the highest-priority unacknowledged code. -/
theorem ackHighest_of_highest {s : State} {i : Fin 45} (h : s.highestUnackedIs i) :
    s.ackHighest = s.acknowledge i := by
  simp only [State.ackHighest, (highest_iff s i).2 h]

/-- Settles O23: the event is taken without a move of any condition, so R172 acts on the codes of `s`. -/
theorem ackAcknowledgesTheHighestCode : Obligations.AckAcknowledgesTheHighestCode := by
  unfold Obligations.AckAcknowledgesTheHighestCode
  intro e s n count hoffers u
  rw [exec_ack_offered e hoffers]
  refine ⟨fun hnone => ?_, fun i hi => ?_⟩
  · rw [ackHighest_of_none (highest_none u hnone)]
  · have hu : u.highestUnackedIs i := hi
    rw [ackHighest_of_highest hu, acknowledge_of_unacked hu.1]
    rfl

/-! ## NEXT ALARM (R173) -/

/-- With no code unacknowledged NEXT ALARM reads out zeros. -/
theorem nextAlarm_of_none {s : State} (h : s.highestUnacked = none) :
    s.nextAlarm = s.answerHead .ok [0, 0, 0, 0] .nothing := by
  simp only [State.nextAlarm, h]

/-- NEXT ALARM reads out the highest-priority unacknowledged code, as it was before its acknowledgement. -/
theorem nextAlarm_of_highest {s : State} {i : Fin 45} (h : s.highestUnackedIs i) :
    s.nextAlarm = (s.acknowledge i).answerHead .ok
      [byte (i.val + 1), byte (s.reaction i).cls, byte (s.cond.alarm[i.val]).code,
        byte (s.acknowledge i).unackedCount] .nothing := by
  simp only [State.nextAlarm, (highest_iff s i).2 h]

/-- The codes of section 11.2 for the two states NEXT ALARM can find a code in. -/
theorem byte_code_of_unacked {a : AlarmState} (h : a.unacked = true) :
    byte a.code = if a = .activeUnacked then 1 else 3 := by
  rcases (unacked_iff a).1 h with rfl | rfl <;> rfl

/-- Settles O54: the request is served on the codes of `s`, and the head it answers is not moved by the
acknowledgement. -/
theorem nextAlarmReadsOutTheHighestCode : Obligations.NextAlarmReadsOutTheHighestCode := by
  unfold Obligations.NextAlarmReadsOutTheHighestCode
  rintro e s station tag r rfl hserve u step
  have hstep : step = .next u.nextAlarm :=
    congrArg Host.Outcome.next (State.request_canServe s e 0x06 station tag [] none State.nextAlarm hserve)
  obtain ⟨⟨-, hhead, -⟩, -, -⟩ := hserve
  refine ⟨fun hnone => ⟨u.nextAlarm, hstep, ?_⟩, fun i hi => ⟨u.nextAlarm, hstep, ?_⟩⟩
  · rw [nextAlarm_of_none (highest_none u hnone)]
    exact State.answered_answerHead (s := u) _ _ _ hhead
  · have hu : u.highestUnackedIs i := hi
    have hacked := acknowledge_of_unacked hu.1
    rw [nextAlarm_of_highest hu, byte_code_of_unacked hu.1, acknowledge_unackedCount, hacked]
    exact State.answered_answerHead _ _ _ hhead

/-! ## The first code in priority order (R165) -/

/-- No code is first exactly where no code is accepted. -/
theorem firstByPriority_eq_none_iff (s : State) (p : Fin 45 → Bool) :
    s.firstByPriority p = none ↔ ∀ i : Fin 45, p i = false := by
  have hbest := first_spec s p
  cases hfirst : s.firstByPriority p with
  | none =>
    rw [hfirst] at hbest
    exact iff_of_true rfl fun i => hbest i (List.mem_finRange i)
  | some i =>
    rw [hfirst] at hbest
    obtain ⟨hi, -, -⟩ := hbest
    exact iff_of_false (by simp) fun hall => by simp [hall i] at hi

/-- The first code is the accepted one of the lowest class, and of the lowest code in that class. -/
theorem firstByPriority_eq_some_iff (s : State) (p : Fin 45 → Bool) (i : Fin 45) :
    s.firstByPriority p = some i ↔
      p i = true ∧ ∀ j : Fin 45, p j = true →
        (s.reaction i).cls < (s.reaction j).cls ∨ ((s.reaction i).cls = (s.reaction j).cls ∧ i.val ≤ j.val) := by
  have hbest := first_spec s p
  constructor
  · intro hfirst
    rw [hfirst] at hbest
    obtain ⟨hi, -, hleast⟩ := hbest
    exact ⟨hi, fun j hj => hleast j (List.mem_finRange j) hj⟩
  · rintro ⟨hi, hleast⟩
    cases hfirst : s.firstByPriority p with
    | none => simp [(firstByPriority_eq_none_iff s p).1 hfirst i] at hi
    | some k =>
      rw [hfirst] at hbest
      obtain ⟨hk, -, hkleast⟩ := hbest
      have hik := hleast k hk
      have hki := hkleast i (List.mem_finRange i) hi
      exact congrArg some (Fin.ext (by omega))

/-! ## Reaction ceilings (R168) -/

/-- A code contributes its cap while it is active, or held and not yet acknowledged. -/
theorem contributes_iff (s : State) (i : Fin 45) :
    s.contributes i = true ↔
      s.cond.alarm[i.val] = .activeUnacked ∨ s.cond.alarm[i.val] = .activeAcked
        ∨ (s.cond.alarm[i.val] = .clearedUnacked ∧ (s.reaction i).hold = true) := by
  unfold State.contributes
  cases s.cond.alarm[i.val] <;> simp

/-- A running minimum is the least of its start and the values it has passed. -/
theorem foldl_min_spec {α : Type} (f : α → Nat) (l : List α) (top : Nat) :
    l.foldl (fun m x => min m (f x)) top ≤ top
      ∧ (∀ x ∈ l, l.foldl (fun m x => min m (f x)) top ≤ f x)
      ∧ (l.foldl (fun m x => min m (f x)) top = top ∨ ∃ x ∈ l, l.foldl (fun m x => min m (f x)) top = f x) := by
  induction l generalizing top with
  | nil => simp
  | cons y l ih =>
    obtain ⟨htop, hall, hsome⟩ := ih (min top (f y))
    simp only [List.foldl_cons, List.forall_mem_cons, List.exists_mem_cons_iff]
    refine ⟨by omega, ⟨by omega, hall⟩, ?_⟩
    rcases hsome with hmin | hlater
    · omega
    · exact .inr (.inr hlater)

/-- Whether the code at index `i` caps engine `n` (R168). -/
def State.capsEngine (s : State) (n : Fin 4) (i : Fin 45) : Prop :=
  bitOf (s.reaction i).mask n.val = true
    ∧ (s.cond.alarm[i.val] = .activeUnacked ∨ s.cond.alarm[i.val] = .activeAcked
      ∨ (s.cond.alarm[i.val] = .clearedUnacked ∧ (s.reaction i).hold = true))

/-- The reaction ceiling is the least cap of the codes that cap the engine, and 1000 where none does. -/
theorem cReact_spec (s : State) (n : Fin 4) :
    s.cReact n ≤ 1000 ∧ (∀ i : Fin 45, s.capsEngine n i → s.cReact n ≤ (s.reaction i).cap)
      ∧ (s.cReact n = 1000 ∨ ∃ i : Fin 45, s.capsEngine n i ∧ s.cReact n = (s.reaction i).cap) := by
  have hmem (i : Fin 45) :
      i ∈ (Bank.indices 45).filter (fun i => s.contributes i && bitOf (s.reaction i).mask n.val)
        ↔ s.capsEngine n i := by
    simp [Bank.indices, contributes_iff, State.capsEngine, and_comm]
  obtain ⟨htop, hall, hsome⟩ := foldl_min_spec (fun i => (s.reaction i).cap)
    ((Bank.indices 45).filter fun i => s.contributes i && bitOf (s.reaction i).mask n.val) 1000
  simp only [hmem] at hall hsome
  exact ⟨htop, hall, hsome⟩

/-! ## Alarm lines and their pins (R170, R171) -/

/-- A line is asserted while an unacknowledged code names it. -/
theorem lineAsserted_iff (s : State) (lineB : Bool) :
    s.lineAsserted lineB = true ↔
      ∃ i : Fin 45, (s.cond.alarm[i.val]).unacked = true
        ∧ (if lineB then (s.reaction i).lineB else (s.reaction i).lineA) = true := by
  simp [State.lineAsserted, Bank.indices]

/-- A DISABLED pin is never driven. -/
theorem alarmPin_disabled {s : State} {lineB : Bool} (h : s.lineMode lineB = .disabled) :
    s.alarmPin lineB = .notDriven := by
  simp only [State.alarmPin, h]

/-- An OPEN-DRAIN pin is pulled low by its line and else not driven. -/
theorem alarmPin_openDrain {s : State} {lineB : Bool} (h : s.lineMode lineB = .openDrain) :
    s.alarmPin lineB = if s.lineAsserted lineB then .low else .notDriven := by
  cases ha : s.lineAsserted lineB <;> simp [State.alarmPin, h, ha]

/-- A PUSH-PULL pin is driven both ways. -/
theorem alarmPin_pushPull {s : State} {lineB : Bool} (h : s.lineMode lineB = .pushPull) :
    s.alarmPin lineB = if s.lineAsserted lineB then .low else .high := by
  cases ha : s.lineAsserted lineB <;> simp [State.alarmPin, h, ha]

/-- Without a general table both lines are OPEN-DRAIN. -/
theorem lineMode_invalid {s : State} (h : s.tableImage 12 = none) (lineB : Bool) :
    s.lineMode lineB = .openDrain := by
  simp only [State.lineMode, h]

/-- The general table gives each line its mode. -/
theorem lineMode_valid {s : State} {b : Bytes} (h : s.tableImage 12 = some b) (lineB : Bool) :
    s.lineMode lineB = lineModeOf (byteAt b (if lineB then 5 else 4)) := by
  simp only [State.lineMode, h]

/-- A pin's level by the mode byte of the general table in use. -/
theorem alarmPin_valid {s : State} {b : Bytes} (h : s.tableImage 12 = some b) (lineB : Bool) :
    let mode := byteAt b (if lineB then 5 else 4)
    (mode = 0 → s.alarmPin lineB = .notDriven)
      ∧ (mode = 1 → s.alarmPin lineB = if s.lineAsserted lineB then .low else .notDriven)
      ∧ (mode = 2 → s.alarmPin lineB = if s.lineAsserted lineB then .low else .high) := by
  have hmode := lineMode_valid h lineB
  refine ⟨fun h0 => alarmPin_disabled ?_, fun h1 => alarmPin_openDrain ?_, fun h2 => alarmPin_pushPull ?_⟩
  · rw [hmode, h0]; rfl
  · rw [hmode, h1]; rfl
  · rw [hmode, h2]; rfl

/-! ## The summary (R174) -/

/-- Whether the summary shows the code at index `i`: unacknowledged, with notify set (R174). -/
def State.summaryShows (s : State) (i : Fin 45) : Prop :=
  (s.cond.alarm[i.val]).unacked = true ∧ (s.reaction i).notify = true

/-- The summary's code is 0 exactly where no code is shown. -/
theorem summaryCode_eq_zero_iff (s : State) : s.summaryCode = 0 ↔ ∀ i : Fin 45, ¬ s.summaryShows i := by
  have hnone : (s.firstByPriority fun i => s.cond.alarm[i.val].unacked && (s.reaction i).notify) = none
      ↔ ∀ i : Fin 45, ¬ s.summaryShows i := by
    simp [firstByPriority_eq_none_iff, State.summaryShows]
  rw [← hnone, State.summaryCode]
  split
  next hfirst => simp [hfirst]
  next hfirst => simp [hfirst]

/-- The summary's code is the first of the shown ones in priority order. -/
theorem summaryCode_eq_succ_iff (s : State) (i : Fin 45) :
    s.summaryCode = i.val + 1 ↔
      (s.summaryShows i ∧ ∀ j : Fin 45, s.summaryShows j →
        (s.reaction i).cls < (s.reaction j).cls ∨ ((s.reaction i).cls = (s.reaction j).cls ∧ i.val ≤ j.val)) := by
  have hsome := firstByPriority_eq_some_iff s (fun i => s.cond.alarm[i.val].unacked && (s.reaction i).notify) i
  simp only [Bool.and_eq_true] at hsome
  unfold State.summaryShows
  rw [← hsome, State.summaryCode]
  split
  next hfirst => simp [hfirst]
  next hfirst => simp [hfirst, Fin.val_inj]

/-- The summary's count is that of the shown codes. -/
theorem summaryCount_eq (s : State) :
    s.summaryCount = (List.finRange 45).countP fun i =>
      (s.cond.alarm[i.val] = .activeUnacked || s.cond.alarm[i.val] = .clearedUnacked) && (s.reaction i).notify := by
  rw [State.summaryCount, Bank.indices, ← List.countP_eq_length_filter]
  refine List.countP_congr fun i _ => ?_
  simp [unacked_iff]

/-- Signal 9 shows whether any code is unacknowledged. -/
theorem anyUnacked_iff (s : State) :
    s.anyUnacked = true ↔
      ∃ i : Fin 45, s.cond.alarm[i.val] = .activeUnacked ∨ s.cond.alarm[i.val] = .clearedUnacked := by
  simp [State.anyUnacked, Bank.indices, unacked_iff]

/-! ## The table of R164, and what follows the alarm states -/

/-- What the three events of R164 leave of every code but their own. -/
theorem alarm_other (s : State) {i j : Fin 45} (h : j ≠ i) (b : Bool) :
    (s.setSource (i.val + 1) b).cond.alarm[j.val] = s.cond.alarm[j.val]
      ∧ (s.acknowledge i).cond.alarm[j.val] = s.cond.alarm[j.val] := by
  have hval : i.val ≠ j.val := fun hij => h (Fin.ext hij.symm)
  exact ⟨setSource_alarm s _ b j.val j.isLt (by omega), (acknowledge_alarm s i j).trans (if_neg hval)⟩

/-- Settles O53: each clause of the table is one or two of R164's moves, read off the alarm state of the moment, since
the source flag follows it; what is published has a lemma for each value. -/
theorem alarmStatesFollowTheTable : Obligations.AlarmStatesFollowTheTable := by
  unfold Obligations.AlarmStatesFollowTheTable
  refine ⟨?table, ?published⟩
  case table =>
    intro s i hfollow a up down acked
    have hup : up.cond.alarm[i.val] = a.onSource true := setSource_alarm_self hfollow i true
    have hdown : down.cond.alarm[i.val] = a.onSource false := setSource_alarm_self hfollow i false
    have hack (t : State) : (t.acknowledge i).cond.alarm[i.val] = (t.cond.alarm[i.val]).onAck :=
      (acknowledge_alarm t i i).trans (if_pos rfl)
    have hacked : acked.cond.alarm[i.val] = a.onAck := hack s
    have hackedThen (b : Bool) : (acked.setSource (i.val + 1) b).cond.alarm[i.val] = a.onAck.onSource b :=
      (setSource_alarm_self (acknowledge_alarmsFollow hfollow i) i b).trans (congrArg _ hacked)
    have hactive : s.cond.source[i.val] = true ↔ (a = .activeUnacked ∨ a = .activeAcked) := hfollow i
    rw [hup, hdown, hacked, hackedThen, hackedThen, hack up, hack down, hup, hdown]
    refine ⟨fun ha => ?normal, fun ha => ?activeUnacked, fun ha => ?activeAcked, fun ha => ?clearedUnacked,
      fun j hj => ?other, acknowledge_source s i, setSource_sameBut s _ true, setSource_sameBut s _ false,
      acknowledge_sameBut s i⟩
    case normal =>
      exact ⟨by rw [ha]; rfl, setSource_of_eq (by simpa [ha] using hactive)⟩
    case activeUnacked =>
      exact ⟨setSource_of_eq (hactive.2 (.inl ha)), by rw [ha]; exact ⟨rfl, rfl, rfl, rfl⟩⟩
    case activeAcked =>
      exact ⟨setSource_of_eq (hactive.2 (.inr ha)), by rw [ha]; rfl⟩
    case clearedUnacked =>
      refine ⟨by rw [ha]; rfl, setSource_of_eq (by simpa [ha] using hactive), ?_⟩
      rw [ha]
      exact ⟨rfl, rfl, rfl⟩
    case other =>
      obtain ⟨hupj, hackedj⟩ := alarm_other s hj true
      obtain ⟨hdownj, -⟩ := alarm_other s hj false
      exact ⟨hupj, hdownj, hackedj⟩
  case published =>
    intro s n caps shown
    obtain ⟨htop, hcap, hattained⟩ := cReact_spec s n
    exact ⟨htop, hcap, hattained, lineAsserted_iff s false, lineAsserted_iff s true,
      fun lineB => ⟨fun h => alarmPin_openDrain (lineMode_invalid h lineB), fun b h => alarmPin_valid h lineB⟩,
      summaryCode_eq_zero_iff s, summaryCode_eq_succ_iff s, summaryCount_eq s, anyUnacked_iff s⟩

end Sys2Proof.Machine
end
